-- ==== Sys2Proof/Word.lean ====
section
/-! DEFINITION. The one word type of the block: the 8-bit stimulus word and STATUS byte
(spec/20_memory.md R52: "every value that crosses the block's boundary is one byte or less"). -/

namespace Sys2Proof

/-- One byte: a stimulus word (30_encoding.md R70) or a STATUS byte (10_state.md R34). -/
abbrev Byte := BitVec 8

end Sys2Proof
end

