-- ==== Sys2Proof/Config.lean ====
section
/-! DEFINITION. The configuration of the block (spec/00_scope.md R8 to R10) and the one free value of
the model: what the persistent store answers (spec/10_state.md R25). -/

namespace Sys2Proof

/-- A ROM bank: the type of ROMSEL and of what `StoreRead()` returns (10_state.md R22, R25). -/
inductive RomBank where
  | low
  | high
deriving DecidableEq, Repr, Inhabited

/-- The implementation parameters of 00_scope.md R8; `HIBERNATE_EN` is 0 or 1 by its type. -/
structure Config where
  /-- `W`: the width in bits of PRESS_T, IDLE_T and TOD. -/
  w : Nat
  /-- `SHORT`: the press threshold for power-up, in ticks. -/
  short : Nat
  /-- `LONG`: the press threshold for power-down, in ticks. -/
  long : Nat
  /-- `IDLE`: the idle threshold for hibernation, in ticks. -/
  idle : Nat
  /-- `CLK_DIV`: the half-period of the clock output, in ticks. -/
  clkDiv : Nat
  /-- `HIBERNATE_EN`: whether the idle-hibernate path is present (42_idle_wake.md R154). -/
  hibernateEn : Bool
  /-- `TICK_HZ`: timing only; no rule reads it (70_reset_and_hazards.md R290). -/
  tickHz : Nat
deriving DecidableEq, Repr

/-- `2^W - 1`, the value at which a counter saturates (40_classifier.md R103). -/
def Config.counterMax (c : Config) : Nat := 2 ^ c.w - 1

/-- The reference configuration of 00_scope.md R10, in which the source gives `SHORT`, `LONG` and
`CLK_DIV` no value: they stay arguments. -/
def Config.reference (short long clkDiv : Nat) : Config :=
  { w := 16, short := short, long := long, idle := 3000, clkDiv := clkDiv
    hibernateEn := true, tickHz := 30 }

/-- FREE VALUE (log 4): the store's answer to its n-th read where nothing fixes it
(10_state.md R25: "not determined by the block"). -/
opaque Config.freeStoreRead : Nat → RomBank

end Sys2Proof
end

