-- ==== Sys2Proof/Syntax.lean ====
section
/-! DEFINITION. The stimuli of the block, one constructor per row of spec/opcode_table.json
(spec/30_encoding.md R77). -/

namespace Sys2Proof

/-- A stimulus (30_encoding.md R77): a control-port operation, TICK, PIN or RESET. -/
inductive Instr where
  | nop
  | pwrUp
  | pwrDown
  | romLow
  | romHigh
  | tickMask
  | tickUnmask
  | rdStatus
  | tick
  /-- `PIN L`: `level` is the raw level `L`, `false` = 0 = pressed, `true` = 1 = released (R74). -/
  | pin (level : Bool)
  | reset
deriving DecidableEq, Repr

/-- The operations of format CTL, presented by the foreground (30_encoding.md R71, R72). -/
def Instr.isControlPort : Instr → Bool
  | .nop | .pwrUp | .pwrDown | .romLow | .romHigh | .tickMask | .tickUnmask | .rdStatus => true
  | .tick | .pin _ | .reset => false

end Sys2Proof
end

