-- ==== Sys2Proof/WellFormed.lean ====
section
/-! DEFINITION. What a well-formed configuration (spec/00_scope.md R9) and a well-formed stimulus
(spec/30_encoding.md R76) are. -/

namespace Sys2Proof

/-- The constraints of 00_scope.md R9, one conjunct each (`0 <= SHORT`, `0 <= IDLE` and
`HIBERNATE_EN ∈ {0, 1}` hold by the fields' types). -/
def Config.wellFormed (c : Config) : Bool :=
  decide (2 ≤ c.w) && decide (c.short < c.long) && decide (c.long < c.counterMax) &&
    decide (c.idle < c.counterMax) && decide (1 ≤ c.clkDiv) && decide (c.clkDiv ≤ c.counterMax)

/-- The only operand is PIN's 1-bit level "taken as is" (30_encoding.md R76), and its type is one
bit, so every stimulus is well-formed; an ill-formed one cannot be written. -/
def Instr.wellFormed : Instr → Bool
  | .nop | .pwrUp | .pwrDown | .romLow | .romHigh | .tickMask | .tickUnmask | .rdStatus => true
  | .tick | .pin _ | .reset => true

end Sys2Proof
end

