-- ==== Sys2Proof/Decode.lean ====
section
/-! DEFINITION. The decoder, total on any byte and rejecting by name, then the encoder, both written
from spec/30_encoding.md R70 to R79. -/

namespace Sys2Proof

/-- Why a byte is no stimulus (30_encoding.md R79), by the format it breaks; `noWord` is a sequence
with no byte left. -/
inductive Rejection where
  /-- `s[7:6] = 00` with `s[5:4] != 00` or `OP >= 8`. -/
  | reservedCtl
  /-- `s[7:6] = 01` with `s[5:0] != 0`. -/
  | reservedTick
  /-- `s[7:6] = 10` with `s[5:1] != 0`. -/
  | reservedPin
  /-- `s[7:6] = 11` with `s[5:0] != 0`. -/
  | reservedReset
  /-- There is no byte to decode. -/
  | noWord
deriving DecidableEq, Repr

/-- Field `CLS = s[7:6]` (R71). -/
def fieldCls (s : Byte) : Nat := (s.extractLsb' 6 2).toNat

/-- Field `s[5:4]` of format CTL, reserved, must be zero (R72). -/
def fieldCtlReserved (s : Byte) : Nat := (s.extractLsb' 4 2).toNat

/-- Field `OP = s[3:0]` of format CTL (R72). -/
def fieldOp (s : Byte) : Nat := (s.extractLsb' 0 4).toNat

/-- Field `s[5:0]` of formats TCK and RST, zero (R73, R75). -/
def fieldLowSix (s : Byte) : Nat := (s.extractLsb' 0 6).toNat

/-- Field `s[5:1]` of format PIN, zero (R74). -/
def fieldPinZero (s : Byte) : Nat := (s.extractLsb' 1 5).toNat

/-- Field `L = s[0]` of format PIN (R74, R76). -/
def fieldLevel (s : Byte) : Bool := s.getLsbD 0

/-- The operations of format CTL by `OP` (R77, R78). -/
def decodeOp (op : Nat) : Except Rejection Instr :=
  match op with
  | 0 => .ok .nop
  | 1 => .ok .pwrUp
  | 2 => .ok .pwrDown
  | 3 => .ok .romLow
  | 4 => .ok .romHigh
  | 5 => .ok .tickMask
  | 6 => .ok .tickUnmask
  | 7 => .ok .rdStatus
  | _ => .error .reservedCtl

/-- `decode(s[7:0])` of R78. -/
def decode (s : Byte) : Except Rejection Instr :=
  match fieldCls s with
  | 0 => if fieldCtlReserved s = 0 then decodeOp (fieldOp s) else .error .reservedCtl
  | 1 => if fieldLowSix s = 0 then .ok .tick else .error .reservedTick
  | 2 => if fieldPinZero s = 0 then .ok (.pin (fieldLevel s)) else .error .reservedPin
  | _ => if fieldLowSix s = 0 then .ok .reset else .error .reservedReset

/-- Decoding from a sequence of bytes: exactly one byte per stimulus (R70, R81). -/
def decodeBytes : List Byte → Except Rejection (Instr × List Byte)
  | [] => .error .noWord
  | s :: rest =>
    match decode s with
    | .ok i => .ok (i, rest)
    | .error r => .error r

/-- What the decoder reads from an opcode-table word of `nbits` bits; no stimulus is longer than
eight bits (R70). -/
def decodeTableWord (nbits w : Nat) : Option Instr :=
  if nbits ≤ 8 then
    match decode ((BitVec.ofNat nbits w).setWidth 8) with
    | .ok i => some i
    | .error _ => none
  else none

/-! The encoder. -/

/-- Format CTL: `00`, `00`, `OP` (R72). -/
def encodeCtl (op : BitVec 4) : Byte := 0b00#2 ++ (0b00#2 ++ op)

/-- Format TCK: `01`, `000000` (R73). -/
def encodeTck : Byte := 0b01#2 ++ 0b000000#6

/-- Format PIN: `10`, `00000`, `L` (R74). -/
def encodePin (level : Bool) : Byte := 0b10#2 ++ (0b00000#5 ++ BitVec.ofBool level)

/-- Format RST: `11`, `000000` (R75). -/
def encodeRst : Byte := 0b11#2 ++ 0b000000#6

/-- The word of a stimulus (R77). -/
def encode : Instr → Byte
  | .nop => encodeCtl 0x0#4
  | .pwrUp => encodeCtl 0x1#4
  | .pwrDown => encodeCtl 0x2#4
  | .romLow => encodeCtl 0x3#4
  | .romHigh => encodeCtl 0x4#4
  | .tickMask => encodeCtl 0x5#4
  | .tickUnmask => encodeCtl 0x6#4
  | .rdStatus => encodeCtl 0x7#4
  | .tick => encodeTck
  | .pin level => encodePin level
  | .reset => encodeRst

end Sys2Proof
end

