-- ==== Sys2Proof/Machine/Store.lean ====
section
/-! DEFINITION. The persistent store as the block sees it: the answer to one read
(spec/10_state.md R25; spec/20_memory.md R51). -/

namespace Sys2Proof.Machine

/-- The store's answer to its read number `n`: the script's where a claim fixes it ("a configuration
input when a claim fixes it", R25), else a draw (the free value of log 4). -/
def storeAnswer (script : List RomBank) (n : Nat) : RomBank :=
  (script[n]?).getD (Config.freeStoreRead n)

end Sys2Proof.Machine
end

