-- ==== Sys2Proof/Machine/State.lean ====
section
/-! DEFINITION. The state of the block (spec/10_state.md R20), the model's own fields beside it, why
a stimulus is refused, and the state a run starts in (spec/70_reset_and_hazards.md R273). -/

namespace Sys2Proof.Machine

/-- `PWR` (10_state.md R21). -/
inductive Power where
  | off
  | on
deriving DecidableEq, Repr

/-- `MODE` (10_state.md R28; 60_exceptions.md R255). -/
inductive Mode where
  | run
  | sleep
deriving DecidableEq, Repr

/-- The one result a control-port operation returns to the foreground (44_gpio_control.md R200). -/
inductive Response where
  | ok
  /-- `RD_STATUS` returns `OK` with the STATUS byte. -/
  | okStatus (status : Byte)
  | dropped
deriving DecidableEq, Repr

/-- The block raises no fault and has no trap (60_exceptions.md R240, R242), so there is no fault
reason. -/
inductive Fault
deriving DecidableEq, Repr

/-- Why a stimulus or a run is refused. -/
inductive Refusal where
  /-- An instruction whose arm of `exec` has no meaning yet, by its mnemonic; safe (the run stops).
  No arm raises it in this model. -/
  | notModelled (mnemonic : String)
  /-- A reserved stimulus word (30_encoding.md R79, 60_exceptions.md R243), recorded by `step` in the
  sticky mark `State.refusal`; safe under R243's premise "no refusal recorded" (log 7). -/
  | reservedWord (word : Byte)
  /-- The configuration breaks 00_scope.md R9: `step` refuses it before any stimulus; safe (the run
  stops before it starts). -/
  | invalidConfiguration
deriving DecidableEq, Repr

/-- The ten fields of 10_state.md R20, then the model's own (INVENTORY.md, State). -/
structure State where
  /-- `PWR`. -/
  pwr : Power
  /-- `ROMSEL`. -/
  romSel : RomBank
  /-- `PRESS_T`, `W` bits unsigned. -/
  pressT : Nat
  /-- `IDLE_T`, `W` bits unsigned. -/
  idleT : Nat
  /-- `TOD`, `W` bits unsigned. -/
  tod : Nat
  /-- `CLKQ`. -/
  clkQ : Bool
  /-- `MODE`. -/
  mode : Mode
  /-- `TIE`. -/
  tie : Bool
  /-- `TPEND`. -/
  tPend : Bool
  /-- `BTN_N`, `false` = 0 = pressed. -/
  btnN : Bool
  /-- The model's own: the configuration, which no step changes (00_scope.md R8; log 1). -/
  cfg : Config
  /-- The model's own: the stimulus words still to be presented, oldest first (00_scope.md R7; log 2). -/
  stimuli : List Byte
  /-- The model's own: what the last stimulus returned (44_gpio_control.md R200; log 6). -/
  response : Option Response
  /-- The model's own: the sticky refusal mark of 60_exceptions.md R243 (log 7). -/
  refusal : Option Refusal
  /-- The model's own: the store's answers where a claim fixes them (10_state.md R25; log 4). -/
  storeScript : List RomBank
  /-- The model's own: how many reads the store has answered (log 4). -/
  storeReads : Nat
deriving DecidableEq, Repr

/-- The start of a run (70_reset_and_hazards.md R273): "the state `Setup()` gives, with `BTN_N` a
launch input and `StoreRead()` drawn", for a configuration and a store script. -/
def State.launch (cfg : Config) (btnN : Bool) (script : List RomBank) : State :=
  { pwr := .off
    romSel := storeAnswer script 0
    pressT := 0
    idleT := 0
    tod := 0
    clkQ := false
    mode := .run
    tie := true
    tPend := false
    btnN := btnN
    cfg := cfg
    stimuli := []
    response := none
    refusal := none
    storeScript := script
    storeReads := 1 }

/-- The machine right after reset: the launch with the reference configuration (00_scope.md R10), the
button released and the store's answers free. DESIGN CHOICE: `SHORT` = 10, `LONG` = 60, `CLK_DIV` = 1
(log 1) and `BTN_N` = 1 (log 5). -/
def State.reset : State := State.launch (Config.reference 10 60 1) true []

end Sys2Proof.Machine
end

