-- ==== Sys2Proof/Machine/Pins.lean ====
section
/-! DEFINITION. The GPIO driver: the output pins as a function of the state
(spec/44_gpio_control.md R210 to R215; spec/10_state.md R33). -/

namespace Sys2Proof.Machine

/-- The values of `CLK_OUT`: 0, 1 or `Z`, high-impedance (10_state.md R33). -/
inductive ClockPin where
  | low
  | high
  | z
deriving DecidableEq, Repr

/-- The output pins. -/
structure Pins where
  /-- `PWR_EN_N`, active-low. -/
  pwrEnN : Bool
  /-- `ROM_SEL`, active-high. -/
  romSel : Bool
  /-- `CLK_OUT`. -/
  clkOut : ClockPin
deriving DecidableEq, Repr

/-- A driven clock level. -/
def clockLevel (q : Bool) : ClockPin := if q then .high else .low

/-- `Pins()` (R210). -/
def State.pins (s : State) : Pins :=
  { pwrEnN := s.pwr != .on
    romSel := s.pwr == .on && s.romSel == .high
    clkOut := if s.pwr = .on then clockLevel s.clkQ else .z }

/-- The block's four pins (60_exceptions.md R252). -/
inductive Pin where
  | button
  | pwrEnN
  | romSel
  | clkOut
deriving DecidableEq, Repr

/-- The direction of a pin. -/
inductive PinDirection where
  | input
  | output
deriving DecidableEq, Repr

/-- Pin directions are fixed; no operation reconfigures them (R215). -/
def pinDirection : Pin → PinDirection
  | .button => .input
  | .pwrEnN | .romSel | .clkOut => .output

end Sys2Proof.Machine
end

