-- ==== Sys2Proof/Machine/Flags.lean ====
section
/-! DEFINITION. The block has no condition codes (spec/10_state.md R37); its one status view is the
STATUS byte (R34), assembled here as spec/44_gpio_control.md R225 writes it. -/

namespace Sys2Proof.Machine

/-- The encoding of `PWR`, `ON` = 1 (10_state.md R20). -/
def Power.bit (p : Power) : Bool := p == .on

/-- The encoding of `ROMSEL`, `HIGH` = 1 (10_state.md R20). -/
def romBankBit (b : RomBank) : Bool := b == .high

/-- `{rs, pe, BTN_N, CLKQ, TPEND, TIE, ROMSEL, PWR}`, bits 7 to 0 (R225). -/
def State.statusByte (s : State) : Byte :=
  BitVec.ofBool s.pins.romSel ++ (BitVec.ofBool s.pins.pwrEnN ++ (BitVec.ofBool s.btnN ++
    (BitVec.ofBool s.clkQ ++ (BitVec.ofBool s.tPend ++ (BitVec.ofBool s.tie ++
      (BitVec.ofBool (romBankBit s.romSel) ++ BitVec.ofBool s.pwr.bit))))))

end Sys2Proof.Machine
end

