-- ==== Sys2Proof/Machine/Operands.lean ====
section
/-! DEFINITION. The values a stimulus reads besides its word (spec/30_encoding.md R76): the raw
button level as the classifier sees it, and PIN's level as an edge. -/

namespace Sys2Proof.Machine

/-- The classifier's abstract input `pressed = (BTN_N = 0)` (10_state.md R32). -/
def State.pressed (s : State) : Bool := !s.btnN

/-- Whether `PIN L` is a pin change (42_idle_wake.md R160, R163). -/
def State.pinEdge (level : Bool) (s : State) : Bool := level != s.btnN

end Sys2Proof.Machine
end

