-- ==== Sys2Proof/Machine/Ops.lean ====
section
/-! DEFINITION. The named procedures of spec/00_scope.md R12 over the state, each defined once. What
the block has in place of an exception entry stands here too: taking a tick is `tickHandler`, taking
the wake is `setup`; nothing is saved and nothing restored (spec/60_exceptions.md R245, R246). -/

namespace Sys2Proof.Machine

/-! Counter arithmetic (40_classifier.md R103). -/

/-- `sat_inc(x)`: saturates at `2^W - 1` and never wraps. -/
def satInc (c : Config) (x : Nat) : Nat := if x < c.counterMax then x + 1 else c.counterMax

/-- The `W`-bit increment of `TOD` (43_clock_divider.md R180; log 8). -/
def incW (c : Config) (x : Nat) : Nat := (x + 1) % 2 ^ c.w

/-! The result port (44_gpio_control.md R200). -/

/-- `respond(r)`; `none` for a stimulus that returns no result. -/
def State.respond (r : Option Response) (s : State) : State := { s with response := r }

/-- The form every control-port operation has: dropped asleep (R201), else its effect and then its
result, which is read from the state it started in. -/
def controlPort (effect : State → State) (result : State → Response) (s : State) : State :=
  if s.mode = .sleep then s.respond (some .dropped)
  else (effect s).respond (some (result s))

/-! Initialisation (70_reset_and_hazards.md R270). -/

/-- `Setup()`, with the one `StoreRead()` of 10_state.md R25; `BTN_N` is not written. -/
def setup (s : State) : State :=
  { s with
    pwr := .off
    romSel := storeAnswer s.storeScript s.storeReads
    pressT := 0
    idleT := 0
    tod := 0
    clkQ := false
    tie := true
    tPend := false
    mode := .run
    storeReads := s.storeReads + 1 }

/-! The power state machine (41_power_fsm.md). -/

/-- `PowerUp()` (R130). -/
def powerUp (s : State) : State := { s with pwr := .on }

/-- `PowerDown()` (R131). -/
def powerDown (s : State) : State := { s with pwr := .off }

/-! The classifier (40_classifier.md). -/

/-- The classifier's event; it is not stored (10_state.md R37). -/
inductive Event where
  | none
  | powerUp
  | powerDown
deriving DecidableEq, Repr

/-- The event of a released sample, from `PRESS_T` and `PWR` as they stand before the reset (R102). -/
def releaseEvent (s : State) : Event :=
  match s.pwr with
  | .on => if s.cfg.long < s.pressT then .powerDown else .none
  | .off => if s.cfg.short < s.pressT then .powerUp else .none

/-- `Classify()` (R102): the event and the state with the two timers updated. -/
def classify (s : State) : Event × State :=
  if s.pressed then
    (.none, { s with pressT := satInc s.cfg s.pressT, idleT := 0 })
  else
    (releaseEvent s, { s with pressT := 0, idleT := satInc s.cfg s.idleT })

/-- The event applied through the one power path (R101; 41_power_fsm.md). -/
def applyEvent (e : Event) (s : State) : State :=
  match e with
  | .none => s
  | .powerUp => powerUp s
  | .powerDown => powerDown s

/-! The idle monitor (42_idle_wake.md). -/

/-- `Hibernate()` (R152). -/
def hibernate (s : State) : State := { s with tie := false, tPend := false, mode := .sleep }

/-- `IdleCheck()` (R150). -/
def idleCheck (s : State) : State :=
  if s.cfg.hibernateEn = true ∧ s.pwr = .off ∧ s.cfg.idle < s.idleT then hibernate s else s

/-! The clock divider (43_clock_divider.md). -/

/-- `ClockStep()` (R180) and its gate (R181). -/
def clockStep (s : State) : State :=
  if s.pwr = .on then
    if s.cfg.clkDiv ≤ incW s.cfg s.tod then { s with clkQ := !s.clkQ, tod := 0 }
    else { s with tod := incW s.cfg s.tod }
  else s

/-! The tick handler (40_classifier.md R101). -/

/-- `TickHandler()`: classifier, event, idle monitor, clock divider, in that order. -/
def tickHandler (s : State) : State :=
  clockStep (idleCheck (applyEvent (classify s).1 (classify s).2))

/-! Presenting stimuli (00_scope.md R7). -/

/-- Take the next stimulus word, the oldest of those not yet presented. -/
def fetch (s : State) : Option (Byte × State) :=
  match s.stimuli with
  | [] => none
  | w :: rest => some (w, { s with stimuli := rest })

/-- `refuse(reason)` (60_exceptions.md R243): no field of the block changes, and the mark is set; a
mark already set keeps its first reason (log 7). -/
def refuse (r : Refusal) (s : State) : State :=
  { s with response := none, refusal := some (s.refusal.getD r) }

end Sys2Proof.Machine
end

