-- ==== Sys2Proof/Machine/Gpio.lean ====
section
/-! DEFINITION. The control-port operations of spec/44_gpio_control.md: NOP, ROM select, tick masking
and status. -/

namespace Sys2Proof.Machine

/-- `NOP` (R226). -/
def execNop (s : State) : Host.Outcome State Fault Refusal :=
  .next (controlPort id (fun _ => .ok) s)

/-- `ROM_LOW` (R220). -/
def execRomLow (s : State) : Host.Outcome State Fault Refusal :=
  .next (controlPort (fun s => { s with romSel := .low }) (fun _ => .ok) s)

/-- `ROM_HIGH` (R221). -/
def execRomHigh (s : State) : Host.Outcome State Fault Refusal :=
  .next (controlPort (fun s => { s with romSel := .high }) (fun _ => .ok) s)

/-- `TICK_MASK` (R223). -/
def execTickMask (s : State) : Host.Outcome State Fault Refusal :=
  .next (controlPort (fun s => { s with tie := false }) (fun _ => .ok) s)

/-- The effect of `TICK_UNMASK` awake (R224): ticks enabled, and a held tick runs now. -/
def unmaskTicks (s : State) : State :=
  if s.tPend = true then tickHandler { s with tie := true, tPend := false }
  else { s with tie := true }

/-- `TICK_UNMASK` (R224). -/
def execTickUnmask (s : State) : Host.Outcome State Fault Refusal :=
  .next (controlPort unmaskTicks (fun _ => .ok) s)

/-- `RD_STATUS` (R225). -/
def execRdStatus (s : State) : Host.Outcome State Fault Refusal :=
  .next (controlPort id (fun s => .okStatus s.statusByte) s)

end Sys2Proof.Machine
end

