-- ==== Sys2Proof/Machine/PinChange.lean ====
section
/-! DEFINITION. The stimulus PIN and the wake (spec/42_idle_wake.md R160). -/

namespace Sys2Proof.Machine

/-- What `PIN L` does to the block: the level is stored, and an edge while asleep wakes it. -/
def presentPin (level : Bool) (s : State) : State :=
  if s.mode = .sleep ∧ s.pinEdge level = true then setup { s with btnN := level }
  else { s with btnN := level }

/-- `PIN L` (R160). -/
def execPin (level : Bool) (s : State) : Host.Outcome State Fault Refusal :=
  .next ((presentPin level s).respond none)

end Sys2Proof.Machine
end

