-- ==== Sys2Proof/Machine/PowerFsm.lean ====
section
/-! DEFINITION. The control-port operations of the power state machine (spec/41_power_fsm.md). -/

namespace Sys2Proof.Machine

/-- `PWR_UP` (R132), through the same `powerUp` as the classifier's event. -/
def execPwrUp (s : State) : Host.Outcome State Fault Refusal :=
  .next (controlPort powerUp (fun _ => .ok) s)

/-- `PWR_DOWN` (R133), through the same `powerDown` as the classifier's event. -/
def execPwrDown (s : State) : Host.Outcome State Fault Refusal :=
  .next (controlPort powerDown (fun _ => .ok) s)

end Sys2Proof.Machine
end

