-- ==== Sys2Proof/Machine/Reset.lean ====
section
/-! DEFINITION. The stimulus RESET (spec/70_reset_and_hazards.md R271). -/

namespace Sys2Proof.Machine

/-- `RESET` (R271): `Setup()`, in any `MODE`. -/
def execReset (s : State) : Host.Outcome State Fault Refusal :=
  .next ((setup s).respond none)

end Sys2Proof.Machine
end

