-- ==== Sys2Proof/Machine/Tick.lean ====
section
/-! DEFINITION. The stimulus TICK (spec/40_classifier.md R100). -/

namespace Sys2Proof.Machine

/-- What a TICK does to the block: ignored asleep (R104), held while masked (R105), else the handler. -/
def presentTick (s : State) : State :=
  if s.mode = .sleep then s
  else if s.tie = false then { s with tPend := true }
  else tickHandler s

/-- `TICK` (R100). -/
def execTick (s : State) : Host.Outcome State Fault Refusal :=
  .next ((presentTick s).respond none)

end Sys2Proof.Machine
end

