-- ==== Sys2Proof/Machine/Dispatch.lean ====
section
/-! DEFINITION. One arm per stimulus of spec/30_encoding.md R77, each a direct call of its meaning. -/

namespace Sys2Proof.Machine

/-- The meaning of every stimulus. -/
def exec (i : Instr) (s : State) : Host.Outcome State Fault Refusal :=
  match i with
  | .nop => Sys2Proof.Machine.execNop s
  | .pwrUp => Sys2Proof.Machine.execPwrUp s
  | .pwrDown => Sys2Proof.Machine.execPwrDown s
  | .romLow => Sys2Proof.Machine.execRomLow s
  | .romHigh => Sys2Proof.Machine.execRomHigh s
  | .tickMask => Sys2Proof.Machine.execTickMask s
  | .tickUnmask => Sys2Proof.Machine.execTickUnmask s
  | .rdStatus => Sys2Proof.Machine.execRdStatus s
  | .tick => Sys2Proof.Machine.execTick s
  | .pin level => Sys2Proof.Machine.execPin level s
  | .reset => Sys2Proof.Machine.execReset s

end Sys2Proof.Machine
end

