-- ==== Sys2Proof/Machine/Step.lean ====
section
/-! DEFINITION. One step: the next stimulus is presented, decoded and applied as one indivisible
change (spec/00_scope.md R7). -/

namespace Sys2Proof.Machine

/-- One step. An invalid configuration is refused before any stimulus (60_exceptions.md R243); with no
stimulus presented nothing happens (log 3); a reserved word sets the refusal mark (R243, log 7). -/
def step (s : State) : Host.Outcome State Fault Refusal :=
  if s.cfg.wellFormed then
    match fetch s with
    | none => .next s
    | some (w, s') =>
      match decode w with
      | .ok i => exec i s'
      | .error _ => .next (refuse (.reservedWord w) s')
  else .refused .invalidConfiguration

/-- `s` with one word presented before the stimuli it already holds (log 2); a stimulus word has eight
bits (30_encoding.md R70). -/
def State.withFetchWord (s : State) (nbits w : Nat) : State :=
  { s with stimuli := (BitVec.ofNat nbits w).setWidth 8 :: s.stimuli }

end Sys2Proof.Machine
end

