-- ==== Sys2Proof/Machine/Text.lean ====
section
/-! DEFINITION. The text form of stimuli: mnemonics, pseudo-stimuli and the serial command names
(spec/30_encoding.md R82 to R84). The machine reads words only; this is the notation of programs. -/

namespace Sys2Proof.Machine

/-- The pseudo-stimuli of R83. -/
inductive Pseudo where
  | press
  | release
  | ticks (n : Nat)
  | hold (n : Nat)
deriving DecidableEq, Repr

/-- The exact expansions of R83. -/
def Pseudo.expand : Pseudo → List Instr
  | .press => [.pin false]
  | .release => [.pin true]
  | .ticks n => List.replicate n .tick
  | .hold n => .pin false :: (List.replicate n .tick ++ [.pin true, .tick])

/-- The mnemonics that take no operand (R77, R82). -/
def plainMnemonics : List (List Char × Instr) :=
  [("NOP".toList, .nop), ("PWR_UP".toList, .pwrUp), ("PWR_DOWN".toList, .pwrDown),
    ("ROM_LOW".toList, .romLow), ("ROM_HIGH".toList, .romHigh), ("TICK_MASK".toList, .tickMask),
    ("TICK_UNMASK".toList, .tickUnmask), ("RD_STATUS".toList, .rdStatus), ("TICK".toList, .tick),
    ("RESET".toList, .reset)]

/-- The serial command names that have a stimulus (R84), in capitals. -/
def serialNames : List (List Char × Instr) :=
  [("POWERUP".toList, .pwrUp), ("POWERDOWN".toList, .pwrDown), ("ROML".toList, .romLow),
    ("ROMLOW".toList, .romLow), ("ROMH".toList, .romHigh), ("ROMHIGH".toList, .romHigh)]

/-- Names are compared without regard to case (R82, R84). -/
def capitals (name : List Char) : List Char := name.map Char.toUpper

/-- The stimulus of a serial command name, "case-insensitive exact match"; every other name, `defroml`,
`defromh`, `version` and `help` among them, has none (R84). -/
def serialStimulus (name : List Char) : Option Instr := serialNames.lookup (capitals name)

/-- A `;` starts a comment running to the end of the line (R82). -/
def stripComment (line : List Char) : List Char := line.takeWhile (· != ';')

/-- The words of a line, between blanks; `cur` is the word being read, backwards. -/
def wordsFrom (cur : List Char) : List Char → List (List Char)
  | [] => if cur.isEmpty then [] else [cur.reverse]
  | c :: cs =>
    if c = ' ' ∨ c = '\t' ∨ c = '\r' then
      (if cur.isEmpty then [] else [cur.reverse]) ++ wordsFrom [] cs
    else wordsFrom (c :: cur) cs

/-- A decimal number, `acc` being its value so far. -/
def decimalFrom (acc : Nat) : List Char → Option Nat
  | [] => some acc
  | c :: cs =>
    if '0' ≤ c ∧ c ≤ '9' then decimalFrom (10 * acc + (c.toNat - 48)) cs else none

/-- The operand `n` of `TICKS n` and `HOLD n` (R83), decimal (log 9). -/
def decimal : List Char → Option Nat
  | [] => none
  | cs => decimalFrom 0 cs

/-- One line of a program (R82 to R84): nothing, one stimulus or one pseudo-stimulus; `none` is a line
that is no stimulus. -/
def parseLine (line : List Char) : Option (List Instr) :=
  match (wordsFrom [] (stripComment line)).map capitals with
  | [] => some []
  | [name] =>
    if name = "PRESS".toList then some Pseudo.press.expand
    else if name = "RELEASE".toList then some Pseudo.release.expand
    else ((plainMnemonics ++ serialNames).lookup name).map ([·])
  | [name, operand] =>
    if name = "PIN".toList then
      if operand = ['0'] then some [.pin false]
      else if operand = ['1'] then some [.pin true]
      else none
    else if name = "TICKS".toList then (decimal operand).map (Pseudo.ticks · |>.expand)
    else if name = "HOLD".toList then (decimal operand).map (Pseudo.hold · |>.expand)
    else none
  | _ => none

/-- A stimulus sequence: a list of lines, applied in order (R82). -/
def parseProgram : List (List Char) → Option (List Instr)
  | [] => some []
  | line :: rest =>
    match parseLine line, parseProgram rest with
    | some here, some later => some (here ++ later)
    | _, _ => none

/-- The words of a stimulus sequence, in order (R77). -/
def encodeAll (is : List Instr) : List Byte := is.map encode

end Sys2Proof.Machine
end

