-- ==== Sys2Proof/Safety.lean ====
section
/-! DEFINITION. What claims use: the invariants between stimuli (spec/10_state.md R40) and a run with
no refusal recorded (spec/60_exceptions.md R243). -/

namespace Sys2Proof.Machine

/-- The invariants that hold between any two stimuli: the configuration's constraints (00_scope.md
R9), items 1 to 5 of 10_state.md R40 under their numbers, and four the spec's rules imply. -/
structure State.Inv (s : State) : Prop where
  /-- 00_scope.md R9. -/
  config : s.cfg.wellFormed = true
  /-- R40 item 1. -/
  offRomPin : s.pwr = .off → s.pins.romSel = false
  /-- R40 item 2. -/
  sleepPwr : s.mode = .sleep → s.pwr = .off
  /-- R40 item 2. -/
  sleepTie : s.mode = .sleep → s.tie = false
  /-- R40 item 2. -/
  sleepTPend : s.mode = .sleep → s.tPend = false
  /-- R40 item 3; 10_state.md R26. -/
  tod : s.tod < s.cfg.clkDiv
  /-- R40 item 4. -/
  pressIdle : 0 < s.pressT → s.idleT = 0
  /-- R40 item 5. -/
  pressMax : s.pressT ≤ s.cfg.counterMax
  /-- R40 item 5. -/
  idleMax : s.idleT ≤ s.cfg.counterMax
  /-- Implied by 42_idle_wake.md R165: `BTN_N = 1` in sleep. -/
  sleepReleased : s.mode = .sleep → s.btnN = true
  /-- Implied by 42_idle_wake.md R154: sleep needs `HIBERNATE_EN = 1`. -/
  sleepEnabled : s.mode = .sleep → s.cfg.hibernateEn = true
  /-- Implied by 42_idle_wake.md R150, R152: `IDLE_T` keeps its value in sleep. -/
  sleepIdle : s.mode = .sleep → s.cfg.idle < s.idleT
  /-- Implied by 10_state.md R30: a tick is held only while ticks are masked. -/
  heldMasked : s.tPend = true → s.tie = false

/-- The stimulus takes a tick: a TICK that is neither ignored nor held (40_classifier.md R100), or the
unmask that runs a held one (44_gpio_control.md R224). -/
def TakesTick (i : Instr) (s : State) : Prop :=
  s.mode = .run ∧ ((i = .tick ∧ s.tie = true) ∨ (i = .tickUnmask ∧ s.tPend = true))

/-- The stimulus runs `Setup()`: RESET, or a pin change while asleep (42_idle_wake.md R160). -/
def RunsSetup (i : Instr) (s : State) : Prop :=
  i = .reset ∨ ∃ l, i = .pin l ∧ s.mode = .sleep ∧ l ≠ s.btnN

/-- `n` steps, stopping at the first refusal: a run (`Host.Core.run` of the core, over `State` itself;
Laws/Run.lean proves the two equal). -/
def runSteps : Nat → State → Host.Outcome State Fault Refusal
  | 0, s => .next s
  | n + 1, s =>
    match step s with
    | .next t => runSteps n t
    | .fault r => .fault r
    | .refused r => .refused r

/-- "No refusal recorded", the premise of a claim about a run (60_exceptions.md R243). -/
def State.unrefused (s : State) : Bool := s.refusal.isNone

/-- A safe outcome of a run: it ends in a state with no refusal recorded. -/
def SafeOutcome : Host.Outcome State Fault Refusal → Prop
  | .next t => t.unrefused = true
  | .fault _ => False
  | .refused _ => False

end Sys2Proof.Machine
end

