-- ==== Sys2Proof/Certificates/Slice0/Obligations.lean ====
section
/-! DEFINITION. The statements for the provers. Every one holds for every configuration the model can
hold, unless it asks for a valid one (spec/00_scope.md R9). Where a docstring says "spec's decision
D<n>", the clause rests on a choice that spec/92_eei_decisions.md marks as the spec's own. The
equation of a next state writes the whole frame: every field not named there is unchanged. -/

open Sys2Proof Sys2Proof.Machine

/-! Reset and the start of a run. -/

/-- 70_reset_and_hazards.md R270, R272, R273: a run starts in the state `Setup()` gives, whatever the
configuration, the launch level of the button and the store hold. Spec's decisions D14 (PWR = OFF),
D15 (the store), D21 (the launch level), D33 (the start of a run). -/
def Obligations.RunStartsInTheSetupState : Prop :=
  (∀ (s : State), s.storeReads = 0 →
    setup s = { State.launch s.cfg s.btnN s.storeScript with
      stimuli := s.stimuli, response := s.response, refusal := s.refusal }) ∧
  (∀ (c : Config) (b : Bool) (script : List RomBank),
    (State.launch c b script).pwr = .off ∧ (State.launch c b script).pressT = 0 ∧
    (State.launch c b script).idleT = 0 ∧ (State.launch c b script).tod = 0 ∧
    (State.launch c b script).clkQ = false ∧ (State.launch c b script).tie = true ∧
    (State.launch c b script).tPend = false ∧ (State.launch c b script).mode = .run ∧
    (State.launch c b script).btnN = b ∧
    (State.launch c b script).romSel = storeAnswer script 0 ∧
    (State.launch c b script).pins = { pwrEnN := true, romSel := false, clkOut := .z }) ∧
  (∃ c b script, c.wellFormed = true ∧ State.reset = State.launch c b script)

/-- Every launch with a valid configuration meets the invariants of 10_state.md R40, and so does
`State.reset`. -/
def Obligations.LaunchMeetsTheInvariants : Prop :=
  (∀ (c : Config) (b : Bool) (script : List RomBank),
    c.wellFormed = true → (State.launch c b script).Inv) ∧ State.reset.Inv

/-- 10_state.md R40 (and R165, R154, R30, whose consequences `State.Inv` adds): every step keeps the
invariants, from every state that meets them. -/
def Obligations.StepKeepsTheInvariants : Prop :=
  ∀ s t : State, s.Inv → step s = .next t → t.Inv

/-! Decoding and stepping. -/

/-- 30_encoding.md R77, R78: the decoder reads a word as a stimulus exactly when it is that stimulus's
word. Spec's decisions D2, D3. -/
def Obligations.DecodeReadsExactlyTheEncodedWords : Prop :=
  ∀ (w : Byte) (i : Instr), decode w = .ok i ↔ w = encode i

/-- 30_encoding.md R72 to R78: words written out bit by bit from the formats. Spec's decisions D2, D3. -/
def Obligations.WordsOfEveryFormatDecode : Prop :=
  decode 0b00000000#8 = .ok .nop ∧ decode 0b00000010#8 = .ok .pwrDown ∧
  decode 0b00000111#8 = .ok .rdStatus ∧ decode 0b01000000#8 = .ok .tick ∧
  decode 0b10000000#8 = .ok (.pin false) ∧ decode 0b10000001#8 = .ok (.pin true) ∧
  decode 0b11000000#8 = .ok .reset ∧
  decode 0b00001000#8 = .error .reservedCtl ∧ decode 0b00010000#8 = .error .reservedCtl ∧
  decode 0b01000001#8 = .error .reservedTick ∧ decode 0b10000010#8 = .error .reservedPin ∧
  decode 0b11000001#8 = .error .reservedReset

/-- 00_scope.md R7 and 30_encoding.md R70: the step of a state whose next stimulus decodes to `i` is
`exec` of `i`, with exactly that one byte consumed. The list of stimuli is the model's (log 2). -/
def Obligations.StepRunsTheDecodedStimulus : Prop :=
  (∀ (s : State) (w : Byte) (rest : List Byte) (i : Instr), s.cfg.wellFormed = true →
    s.stimuli = w :: rest → decode w = .ok i → step s = exec i { s with stimuli := rest }) ∧
  (∀ (s : State) (i : Instr), s.cfg.wellFormed = true →
    step (s.withFetchWord 8 (encode i).toNat) = exec i s)

/-- 30_encoding.md R79, 60_exceptions.md R243: a word that encodes no stimulus is refused in every
MODE; no field of the block changes and the mark is set. Spec's decision D4; that the run goes on and
the mark keeps its first reason is the model's choice (log 7). -/
def Obligations.ReservedWordOnlySetsTheRefusalMark : Prop :=
  ∀ (s : State) (w : Byte) (rest : List Byte), s.cfg.wellFormed = true → s.stimuli = w :: rest →
    (∀ i, encode i ≠ w) →
    step s = .next { s with
      stimuli := rest, response := none, refusal := some (s.refusal.getD (.reservedWord w)) }

/-- 60_exceptions.md R243: "a refusal mark that no later stimulus clears", RESET included; and no
accepted stimulus sets it. Spec's decision D4. -/
def Obligations.NoStimulusClearsTheRefusalMark : Prop :=
  (∀ (s t : State) (r : Refusal), step s = .next t → s.refusal = some r → t.refusal = some r) ∧
  (∀ (i : Instr) (s t : State), exec i s = .next t → t.refusal = s.refusal)

/-- 00_scope.md R9, 60_exceptions.md R243: exactly the configurations that break a constraint are
refused, before any stimulus. Spec's decisions D4, D6, D7. -/
def Obligations.InvalidConfigurationIsRefused : Prop :=
  ∀ s : State, step s = .refused .invalidConfiguration ↔
    ¬ (2 ≤ s.cfg.w ∧ s.cfg.short < s.cfg.long ∧ s.cfg.long < 2 ^ s.cfg.w - 1 ∧
      s.cfg.idle < 2 ^ s.cfg.w - 1 ∧ 1 ≤ s.cfg.clkDiv ∧ s.cfg.clkDiv ≤ 2 ^ s.cfg.w - 1)

/-- 60_exceptions.md R240: no exception exists, and every accepted stimulus has an effect in every
state. -/
def Obligations.EveryStimulusHasAnEffectInEveryState : Prop :=
  (∀ (i : Instr) (s : State), ∃ t, exec i s = .next t) ∧ (∀ _ : Fault, False)

/-- 10_state.md R20 ("The configuration ... is not state and never changes") and 00_scope.md R7: with a
valid configuration a step answers a next state, leaves the configuration, and consumes one stimulus
where one is presented. The model's own: the stimuli and the script (log 2, log 4), that a step with no
stimulus presented answers the same state (log 3), and that the run goes on after a reserved word
(log 7; the spec's decision D4 is the refusal mark). Spec's decisions D5, D28. -/
def Obligations.StepConsumesOneStimulusAndKeepsTheConfiguration : Prop :=
  ∀ s : State, s.cfg.wellFormed = true →
    ∃ t, step s = .next t ∧ t.cfg = s.cfg ∧ t.stimuli = s.stimuli.tail ∧
      t.storeScript = s.storeScript

/-! Control-port operations. -/

/-- 44_gpio_control.md R226, 30_encoding.md R80: NOP does nothing but return OK. Spec's decision D3. -/
def Obligations.NopOnlyReturnsOk : Prop :=
  ∀ s : State, s.mode = .run → exec .nop s = .next { s with response := some .ok }

/-- 41_power_fsm.md R132, R130: PWR_UP writes PWR and nothing else; the pins follow. Spec's decisions
D10, D22, D25. -/
def Obligations.PwrUpTurnsTheHostOn : Prop :=
  ∀ s : State, s.mode = .run → ∃ t, exec .pwrUp s = .next t ∧
    t = { s with pwr := .on, response := some .ok } ∧
    t.pins = { pwrEnN := false, romSel := decide (s.romSel = .high), clkOut := clockLevel s.clkQ }

/-- 41_power_fsm.md R133, R131: PWR_DOWN writes PWR and nothing else; the pins follow. Spec's decisions
D10, D22, D25. -/
def Obligations.PwrDownTurnsTheHostOff : Prop :=
  ∀ s : State, s.mode = .run → ∃ t, exec .pwrDown s = .next t ∧
    t = { s with pwr := .off, response := some .ok } ∧
    t.pins = { pwrEnN := true, romSel := false, clkOut := .z }

/-- 44_gpio_control.md R220, whole. -/
def Obligations.RomLowSelectsBankLow : Prop :=
  encode .romLow = 0x03#8 ∧
  ∀ s : State,
    (s.mode = .sleep → exec .romLow s = .next { s with response := some .dropped }) ∧
    (s.mode = .run → ∃ t, exec .romLow s = .next t ∧
      t = { s with romSel := .low, response := some .ok } ∧ t.pins.romSel = false)

/-- 44_gpio_control.md R221, whole; the pin becomes 1 at the next PowerUp. -/
def Obligations.RomHighSelectsBankHigh : Prop :=
  encode .romHigh = 0x04#8 ∧
  ∀ s : State,
    (s.mode = .sleep → exec .romHigh s = .next { s with response := some .dropped }) ∧
    (s.mode = .run → ∃ t, exec .romHigh s = .next t ∧
      t = { s with romSel := .high, response := some .ok } ∧
      t.pins.romSel = decide (s.pwr = .on) ∧ (powerUp t).pins.romSel = true)

/-- 44_gpio_control.md R223: TICK_MASK writes TIE and nothing else. Spec's decision D16. -/
def Obligations.TickMaskDisablesTicks : Prop :=
  ∀ s : State, s.mode = .run →
    exec .tickMask s = .next { s with tie := false, response := some .ok }

/-- 44_gpio_control.md R224 with nothing held: TIE is set and nothing else happens. Spec's decision D16. -/
def Obligations.TickUnmaskWithNothingHeldEnablesTicks : Prop :=
  ∀ s : State, s.mode = .run → s.tPend = false →
    exec .tickUnmask s = .next { s with tie := true, response := some .ok }

/-- 44_gpio_control.md R224, 60_exceptions.md R247: a held tick is the tick taken at the unmask, run
before the operation returns, and the result is OK even where it hibernates. Spec's decision D16. -/
def Obligations.TickUnmaskRunsTheHeldTick : Prop :=
  ∀ s : State, s.mode = .run → s.tPend = true →
    ∃ t, exec .tick { s with tie := true, tPend := false } = .next t ∧
      exec .tickUnmask s = .next { t with response := some .ok }

/-- 44_gpio_control.md R225, 10_state.md R34: RD_STATUS returns the STATUS byte and changes no state of
the block. Spec's decision D23. -/
def Obligations.RdStatusReturnsTheStatusByte : Prop :=
  ∀ s : State, s.mode = .run → ∃ st : Byte,
    exec .rdStatus s = .next { s with response := some (.okStatus st) } ∧
    st.getLsbD 0 = decide (s.pwr = .on) ∧ st.getLsbD 1 = decide (s.romSel = .high) ∧
    st.getLsbD 2 = s.tie ∧ st.getLsbD 3 = s.tPend ∧ st.getLsbD 4 = s.clkQ ∧
    st.getLsbD 5 = s.btnN ∧ st.getLsbD 6 = decide (s.pwr = .off) ∧
    st.getLsbD 7 = decide (s.pwr = .on ∧ s.romSel = .high)

/-- 44_gpio_control.md R201: asleep, every operation of the control port is dropped and changes no
state of the block. Spec's decision D18. -/
def Obligations.ControlPortIsDroppedAsleep : Prop :=
  ∀ (i : Instr) (s : State), i.isControlPort = true → s.mode = .sleep →
    exec i s = .next { s with response := some .dropped }

/-- 20_memory.md R54, 41_power_fsm.md R134: these operations, repeated at once, change nothing more;
awake or asleep. Spec's decision D5. -/
def Obligations.ControlPortOperationsAreIdempotent : Prop :=
  ∀ (i : Instr) (s t : State),
    i ∈ [Instr.nop, .pwrUp, .pwrDown, .romLow, .romHigh, .tickMask, .rdStatus] →
    exec i s = .next t → exec i t = .next t

/-- 44_gpio_control.md R222: ROM_HIGH, ROM_LOW, ROM_HIGH leave ROMSEL = HIGH, each with result OK, and
touch nothing else. -/
def Obligations.RomSelectRoundTripEndsHigh : Prop :=
  ∀ s : State, s.mode = .run → ∃ u v : State,
    exec .romHigh s = .next u ∧ u.response = some .ok ∧ exec .romLow u = .next v ∧
    v.response = some .ok ∧ v.romSel = .low ∧
    exec .romHigh v = .next { s with romSel := .high, response := some .ok }

/-! TICK. -/

/-- 40_classifier.md R100: ignored asleep, held while masked (at most one), else the handler; with the
rule's own example. The missing result of a TICK is written `response := none`. -/
def Obligations.TickFollowsModeAndMask : Prop :=
  encode .tick = 0x40#8 ∧
  ∀ s : State,
    (s.mode = .sleep → exec .tick s = .next { s with response := none }) ∧
    (s.mode = .run → s.tie = false →
      exec .tick s = .next { s with tPend := true, response := none }) ∧
    (s.mode = .run → s.tie = true →
      exec .tick s = .next { tickHandler s with response := none }) ∧
    (s.mode = .run → s.tie = true → s.pwr = .off → s.btnN = false → s.pressT = 4 →
      5 ≤ 2 ^ s.cfg.w - 1 → exec .tick s = .next { s with pressT := 5, idleT := 0, response := none })

/-- 40_classifier.md R102, whole: the timers, and the event read before the reset. -/
def Obligations.ClassifierFollowsItsTwoThresholds : Prop :=
  ∀ s : State,
    (s.btnN = false →
      classify s = (.none, { s with pressT := satInc s.cfg s.pressT, idleT := 0 })) ∧
    (s.btnN = true →
      (classify s).2 = { s with pressT := 0, idleT := satInc s.cfg s.idleT } ∧
      ((classify s).1 = .powerDown ↔ s.pwr = .on ∧ s.cfg.long < s.pressT) ∧
      ((classify s).1 = .powerUp ↔ s.pwr = .off ∧ s.cfg.short < s.pressT))

/-- 40_classifier.md R101 to R103, 43_clock_divider.md R180, R181: a taken tick that samples the button
pressed. Spec's decisions D6, D8, D9, D10. -/
def Obligations.PressedTickCountsThePress : Prop :=
  ∀ s : State, s.mode = .run → s.tie = true → s.btnN = false →
    (s.pwr = .off → exec .tick s = .next { s with
      pressT := min (s.pressT + 1) (2 ^ s.cfg.w - 1), idleT := 0, response := none }) ∧
    (s.pwr = .on → s.cfg.wellFormed = true → s.tod < s.cfg.clkDiv → exec .tick s = .next { s with
      pressT := min (s.pressT + 1) (2 ^ s.cfg.w - 1), idleT := 0
      tod := if s.tod + 1 = s.cfg.clkDiv then 0 else s.tod + 1
      clkQ := if s.tod + 1 = s.cfg.clkDiv then !s.clkQ else s.clkQ
      response := none })

/-- 40_classifier.md R101, R102, 42_idle_wake.md R150, R152, 43_clock_divider.md R180: a taken tick that
samples the button released while OFF: power-up (the clock steps in the same tick), hibernation, or
neither. Spec's decisions D6, D7, D8, D9, D16, D19. -/
def Obligations.ReleasedTickWhileOff : Prop :=
  ∀ s : State, s.mode = .run → s.tie = true → s.btnN = true → s.pwr = .off →
    (s.cfg.short < s.pressT → s.cfg.wellFormed = true → s.tod < s.cfg.clkDiv →
      exec .tick s = .next { s with
        pwr := .on, pressT := 0, idleT := min (s.idleT + 1) (2 ^ s.cfg.w - 1)
        tod := if s.tod + 1 = s.cfg.clkDiv then 0 else s.tod + 1
        clkQ := if s.tod + 1 = s.cfg.clkDiv then !s.clkQ else s.clkQ
        response := none }) ∧
    (s.pressT ≤ s.cfg.short → s.cfg.hibernateEn = true →
      s.cfg.idle < min (s.idleT + 1) (2 ^ s.cfg.w - 1) →
      exec .tick s = .next { s with
        pressT := 0, idleT := min (s.idleT + 1) (2 ^ s.cfg.w - 1)
        tie := false, tPend := false, mode := .sleep, response := none }) ∧
    (s.pressT ≤ s.cfg.short →
      (s.cfg.hibernateEn = false ∨ min (s.idleT + 1) (2 ^ s.cfg.w - 1) ≤ s.cfg.idle) →
      exec .tick s = .next { s with
        pressT := 0, idleT := min (s.idleT + 1) (2 ^ s.cfg.w - 1), response := none })

/-- 40_classifier.md R101, R102, 42_idle_wake.md R150 to R152, 43_clock_divider.md R180, R181: a taken
tick that samples the button released while ON: no event (the clock steps), or power-down (it does not,
and the block hibernates in that tick only where the idle count already exceeds the threshold). Spec's
decisions D6, D7, D8, D9, D10, D16, D19. -/
def Obligations.ReleasedTickWhileOn : Prop :=
  ∀ s : State, s.mode = .run → s.tie = true → s.btnN = true → s.pwr = .on →
    (s.pressT ≤ s.cfg.long → s.cfg.wellFormed = true → s.tod < s.cfg.clkDiv →
      exec .tick s = .next { s with
        pressT := 0, idleT := min (s.idleT + 1) (2 ^ s.cfg.w - 1)
        tod := if s.tod + 1 = s.cfg.clkDiv then 0 else s.tod + 1
        clkQ := if s.tod + 1 = s.cfg.clkDiv then !s.clkQ else s.clkQ
        response := none }) ∧
    (s.cfg.long < s.pressT →
      (s.cfg.hibernateEn = false ∨ min (s.idleT + 1) (2 ^ s.cfg.w - 1) ≤ s.cfg.idle) →
      exec .tick s = .next { s with
        pwr := .off, pressT := 0, idleT := min (s.idleT + 1) (2 ^ s.cfg.w - 1)
        response := none }) ∧
    (s.cfg.long < s.pressT → s.cfg.hibernateEn = true →
      s.cfg.idle < min (s.idleT + 1) (2 ^ s.cfg.w - 1) →
      exec .tick s = .next { s with
        pwr := .off, pressT := 0, idleT := min (s.idleT + 1) (2 ^ s.cfg.w - 1)
        tie := false, tPend := false, mode := .sleep, response := none })

/-- 40_classifier.md R107: on every taken tick, of a TICK or of an unmask, exactly one timer is
incremented (saturating) and the other is zero, whatever event or hibernation follows. Spec's decision
D6. -/
def Obligations.TakenTickRunsExactlyOneTimer : Prop :=
  ∀ (i : Instr) (s t : State), TakesTick i s → exec i s = .next t →
    (s.btnN = false → t.pressT = min (s.pressT + 1) (2 ^ s.cfg.w - 1) ∧ t.idleT = 0) ∧
    (s.btnN = true → t.pressT = 0 ∧ t.idleT = min (s.idleT + 1) (2 ^ s.cfg.w - 1))

/-- 40_classifier.md R109 and the writers' column of 10_state.md R20: the frame of TICK and
TICK_UNMASK: neither writes ROMSEL or BTN_N, reads the store, or touches the configuration, the
stimuli or the refusal mark. -/
def Obligations.TicksLeaveSelectorButtonAndStoreAlone : Prop :=
  ∀ (i : Instr) (s t : State), (i = .tick ∨ i = .tickUnmask) → exec i s = .next t →
    t.romSel = s.romSel ∧ t.btnN = s.btnN ∧ t.cfg = s.cfg ∧ t.stimuli = s.stimuli ∧
    t.refusal = s.refusal ∧ t.storeScript = s.storeScript ∧ t.storeReads = s.storeReads

/-! PIN and RESET. -/

/-- 42_idle_wake.md R160: the level is stored; an edge while asleep runs `Setup()`, and nothing
else does. Spec's decisions D14, D15 (what `Setup()` writes), D19, D20. The missing result of a PIN is
written `response := none`. -/
def Obligations.PinStoresTheLevelAndWakes : Prop :=
  encode (.pin false) = 0x80#8 ∧ encode (.pin true) = 0x81#8 ∧
  ∀ (l : Bool) (s : State),
    (s.mode = .run → exec (.pin l) s = .next { s with btnN := l, response := none }) ∧
    (l = s.btnN → exec (.pin l) s = .next { s with response := none }) ∧
    (s.mode = .sleep → l ≠ s.btnN → exec (.pin l) s = .next { s with
      btnN := l, pwr := .off, romSel := storeAnswer s.storeScript s.storeReads
      pressT := 0, idleT := 0, tod := 0, clkQ := false, tie := true, tPend := false, mode := .run
      storeReads := s.storeReads + 1, response := none })

/-- 70_reset_and_hazards.md R270, R271, 10_state.md R25: RESET runs `Setup()` in every MODE; BTN_N is
not written and ROMSEL is the store's answer, the script's where a claim fixes it. Spec's decisions
D14, D15, D33; the form of the store's answer is the model's (log 4). -/
def Obligations.ResetRunsSetupInEveryMode : Prop :=
  ∀ s : State, ∃ t, exec .reset s = .next t ∧
    t = { s with
      pwr := .off, romSel := storeAnswer s.storeScript s.storeReads
      pressT := 0, idleT := 0, tod := 0, clkQ := false, tie := true, tPend := false, mode := .run
      storeReads := s.storeReads + 1, response := none } ∧
    t.pins = { pwrEnN := true, romSel := false, clkOut := .z } ∧
    ∀ b, s.storeScript[s.storeReads]? = some b → t.romSel = b

/-! Whole-machine rules. -/

/-- 41_power_fsm.md R135: the table of the transitions of PWR, in both directions. Spec's decision D14
for `Setup()`. -/
def Obligations.PowerChangesOnlyAsItsTableSays : Prop :=
  ∀ (i : Instr) (s t : State), exec i s = .next t →
    (s.pwr = .off → (t.pwr = .on ↔
      (i = .pwrUp ∧ s.mode = .run) ∨
      (TakesTick i s ∧ s.btnN = true ∧ s.cfg.short < s.pressT))) ∧
    (s.pwr = .on → (t.pwr = .off ↔
      (i = .pwrDown ∧ s.mode = .run) ∨
      (TakesTick i s ∧ s.btnN = true ∧ s.cfg.long < s.pressT) ∨ RunsSetup i s))

/-- 10_state.md R22: the writers of ROMSEL are ROM_LOW, ROM_HIGH (awake) and `Setup()`. Spec's decision
D15 for what `Setup()` writes. -/
def Obligations.RomSelectionIsWrittenOnlyByItsWriters : Prop :=
  ∀ (i : Instr) (s t : State), exec i s = .next t →
    (i = .romLow ∧ s.mode = .run ∧ t.romSel = .low) ∨
    (i = .romHigh ∧ s.mode = .run ∧ t.romSel = .high) ∨
    (RunsSetup i s ∧ t.romSel = storeAnswer s.storeScript s.storeReads) ∨
    (t.romSel = s.romSel)

/-- 10_state.md R31: only PIN writes BTN_N, and it writes its operand; neither RESET nor a wake changes
it otherwise. Spec's decision D21. -/
def Obligations.ButtonLevelIsWrittenOnlyByPin : Prop :=
  ∀ (i : Instr) (s t : State), exec i s = .next t →
    (∀ l, i = .pin l → t.btnN = l) ∧ ((∀ l, i ≠ .pin l) → t.btnN = s.btnN)

/-- 43_clock_divider.md R181, R183: TOD and CLKQ change only in a taken tick that leaves PWR = ON, or in
`Setup()`, which zeroes them. Spec's decision D10. -/
def Obligations.DividerMovesOnlyInTicksThatLeaveTheHostOn : Prop :=
  ∀ (i : Instr) (s t : State), exec i s = .next t →
    (t.tod = s.tod ∧ t.clkQ = s.clkQ) ∨ (TakesTick i s ∧ t.pwr = .on) ∨
    (RunsSetup i s ∧ t.tod = 0 ∧ t.clkQ = false)

/-- 60_exceptions.md R255: SLEEP is entered only by hibernation, in a taken tick, and left only by a pin
change or RESET, both through `Setup()`; what survives it. Spec's decisions D14, D15, D16, D19. -/
def Obligations.SleepIsEnteredAndLeftOnlyAsStated : Prop :=
  ∀ (i : Instr) (s t : State), exec i s = .next t →
    (s.mode = .run → t.mode = .sleep →
      TakesTick i s ∧ s.cfg.hibernateEn = true ∧ t.pwr = .off ∧ s.cfg.idle < t.idleT ∧
      t.tie = false ∧ t.tPend = false) ∧
    (s.mode = .sleep → (t.mode = .run ↔ RunsSetup i s)) ∧
    (s.mode = .sleep → t.mode = .run →
      t.pwr = .off ∧ t.pins = { pwrEnN := true, romSel := false, clkOut := .z } ∧
      (i = .reset → t.btnN = s.btnN) ∧ (∀ l, i = .pin l → t.btnN = l) ∧
      t.romSel = storeAnswer s.storeScript s.storeReads ∧
      t.pressT = 0 ∧ t.idleT = 0 ∧ t.tod = 0 ∧ t.tie = true ∧ t.tPend = false) ∧
    (s.mode = .sleep → t.mode = .sleep → t = { s with response := t.response })

/-- 42_idle_wake.md R165: the edge that wakes the block is a press, and the press is counted from the
next tick on. -/
def Obligations.WakeEdgeIsAPress : Prop :=
  ∀ (l : Bool) (s t : State), s.Inv → s.mode = .sleep → exec (.pin l) s = .next t →
    t.mode = .run → l = false ∧ t.pressT = 0 ∧ ∃ u, exec .tick t = .next u ∧ u.pressT = 1

/-- 44_gpio_control.md R211: PWR_EN_N is 0 exactly when PWR = ON; power_up asserts it, power_down
deasserts it, no other field drives it. -/
def Obligations.PowerEnablePinFollowsPower : Prop :=
  (∀ s : State, s.pins.pwrEnN = false ↔ s.pwr = .on) ∧
  (∀ s : State, (powerUp s).pins.pwrEnN = false ∧ (powerDown s).pins.pwrEnN = true) ∧
  (∀ s t : State, s.pwr = t.pwr → s.pins.pwrEnN = t.pins.pwrEnN)

/-- 44_gpio_control.md R212, R213, R214: ROM_SEL is 1 exactly when PWR = ON and ROMSEL = HIGH; CLK_OUT is
CLKQ while ON and Z while OFF; a stimulus that keeps the fields a pin reads keeps the pin. Spec's
decisions D11, D12, D13. -/
def Obligations.SelectorAndClockPinsFollowTheState : Prop :=
  (∀ s : State, s.pins.romSel = true ↔ s.pwr = .on ∧ s.romSel = .high) ∧
  (∀ s : State, (s.pwr = .on → s.pins.clkOut = clockLevel s.clkQ) ∧
    (s.pwr = .off → s.pins.clkOut = .z)) ∧
  (∀ (i : Instr) (s t : State), exec i s = .next t → t.pwr = s.pwr →
    (t.romSel = s.romSel → t.pins.romSel = s.pins.romSel) ∧
    (t.clkQ = s.clkQ → t.pins.clkOut = s.pins.clkOut))

/-! Sequences of stimuli, from every state that meets the invariants. -/

/-- 40_classifier.md R106, 30_encoding.md R83: a press seen on exactly `d` ticks and released turns the
host on exactly when the (saturated) count exceeds SHORT, off exactly when it exceeds LONG, and the
released ticks that follow fire nothing more. Spec's decision D6 for the saturation. -/
def Obligations.PressOfDTicksIsClassifiedByDAlone : Prop :=
  ∀ (s : State) (d k : Nat) (rest : List Byte), s.Inv → s.mode = .run → s.tie = true →
    s.pressT = 0 →
    s.stimuli = encodeAll ((Pseudo.hold d).expand ++ (Pseudo.ticks k).expand) ++ rest →
    ∃ t : State, runSteps (d + 3 + k) s = .next t ∧ t.stimuli = rest ∧
      (s.pwr = .off → (t.pwr = .on ↔ s.cfg.short < min d (2 ^ s.cfg.w - 1))) ∧
      (s.pwr = .on → (t.pwr = .off ↔ s.cfg.long < min d (2 ^ s.cfg.w - 1)))

/-- 42_idle_wake.md R164: while OFF and released, the idle count grows by one a taken tick and the first
tick at which it exceeds IDLE hibernates, no earlier one. Spec's decision D7 for the strict test. -/
def Obligations.IdleTicksHibernateAtTheThreshold : Prop :=
  ∀ (s : State) (n : Nat) (rest : List Byte), s.Inv → s.mode = .run → s.tie = true →
    s.btnN = true → s.pwr = .off → s.cfg.hibernateEn = true → s.pressT ≤ s.cfg.short →
    s.idleT ≤ s.cfg.idle → s.idleT + n = s.cfg.idle + 1 →
    s.stimuli = encodeAll (Pseudo.ticks n).expand ++ rest →
    (∀ k, k < n → ∃ t : State, runSteps k s = .next t ∧ t.mode = .run ∧
      t.tie = true ∧ t.idleT = s.idleT + k) ∧
    ∃ t : State, runSteps n s = .next t ∧ t.mode = .sleep ∧ t.tie = false ∧
      t.idleT = s.cfg.idle + 1 ∧ t.pwr = .off ∧ t.stimuli = rest

/-- 43_clock_divider.md R184, R185: while ON with every tick taken and no power event, CLKQ changes on
every CLK_DIV-th tick from the held phase, and CLK_OUT shows it. Spec's decisions D9, D10. -/
def Obligations.ClockTogglesEveryClkDivTicks : Prop :=
  ∀ (s : State) (n : Nat) (rest : List Byte), s.Inv → s.mode = .run → s.tie = true →
    s.pwr = .on → (s.btnN = false ∨ s.pressT ≤ s.cfg.long) →
    s.stimuli = encodeAll (Pseudo.ticks n).expand ++ rest →
    ∃ t : State, runSteps n s = .next t ∧ t.pwr = .on ∧ t.stimuli = rest ∧
      t.tod = (s.tod + n) % s.cfg.clkDiv ∧
      t.clkQ = (s.clkQ ^^ decide ((s.tod + n) / s.cfg.clkDiv % 2 = 1)) ∧
      t.pins.clkOut = clockLevel t.clkQ

/-- 20_memory.md R59, 40_classifier.md R105: between TICK_MASK and TICK_UNMASK any number of ticks comes
to one tick taken at the unmask. Spec's decision D16. -/
def Obligations.MaskBracketRunsExactlyOneTick : Prop :=
  ∀ (s : State) (n : Nat) (rest : List Byte), s.Inv → s.mode = .run → s.tie = true →
    s.stimuli = encodeAll
      (Instr.tickMask :: ((Pseudo.ticks (n + 1)).expand ++ [Instr.tickUnmask])) ++ rest →
    ∃ t : State, exec .tick { s with stimuli := rest } = .next t ∧
      runSteps (n + 3) s = .next { t with response := some .ok }

/-- 70_reset_and_hazards.md R282: PWR_DOWN keeps the idle count, so after a long time ON the first taken
released tick hibernates the block and a following ROM_HIGH is dropped. Spec's decisions D18, D25. -/
def Obligations.PwrDownAfterLongIdleHibernatesAtTheNextTick : Prop :=
  ∀ s : State, s.Inv → s.mode = .run → s.tie = true → s.btnN = true →
    s.cfg.hibernateEn = true → s.pressT ≤ s.cfg.short → s.cfg.idle < s.idleT →
    ∃ u t : State, exec .pwrDown s = .next u ∧ u.idleT = s.idleT ∧ u.mode = .run ∧
      exec .tick u = .next t ∧ t.mode = .sleep ∧ t.tie = false ∧
      exec .romHigh t = .next { t with response := some .dropped }

/-! The text form. -/

/-- 30_encoding.md R84, whole: the serial command names, without regard to case; every other name has no
stimulus. -/
def Obligations.SerialNamesMapToTheirStimuli : Prop :=
  ∀ name : List Char,
    (capitals name = "POWERUP".toList → serialStimulus name = some .pwrUp) ∧
    (capitals name = "POWERDOWN".toList → serialStimulus name = some .pwrDown) ∧
    (capitals name = "ROML".toList ∨ capitals name = "ROMLOW".toList →
      serialStimulus name = some .romLow) ∧
    (capitals name = "ROMH".toList ∨ capitals name = "ROMHIGH".toList →
      serialStimulus name = some .romHigh) ∧
    (capitals name ∉ ["POWERUP".toList, "POWERDOWN".toList, "ROML".toList, "ROMLOW".toList,
      "ROMH".toList, "ROMHIGH".toList] → serialStimulus name = none)

/-- 30_encoding.md R83: the exact expansions of the pseudo-stimuli, as words. Spec's decision D37. -/
def Obligations.PseudoStimuliExpandToTheirWords : Prop :=
  encodeAll Pseudo.press.expand = [0x80#8] ∧ encodeAll Pseudo.release.expand = [0x81#8] ∧
  (∀ n, encodeAll (Pseudo.ticks n).expand = List.replicate n 0x40#8) ∧
  (∀ n, encodeAll (Pseudo.hold n).expand =
    [0x80#8] ++ List.replicate n 0x40#8 ++ [0x81#8, 0x40#8])
end

