-- ==== Sys2Proof/Laws/State.lean ====
section
/-! SUPPORT. One lemma per field per named update of the state: what the update leaves in the field. -/

namespace Sys2Proof.Machine

/-! `State.respond`. -/

@[simp] theorem State.respond_pwr (r : Option Response) (s : State) :
    (s.respond r).pwr = s.pwr := rfl
@[simp] theorem State.respond_romSel (r : Option Response) (s : State) :
    (s.respond r).romSel = s.romSel := rfl
@[simp] theorem State.respond_pressT (r : Option Response) (s : State) :
    (s.respond r).pressT = s.pressT := rfl
@[simp] theorem State.respond_idleT (r : Option Response) (s : State) :
    (s.respond r).idleT = s.idleT := rfl
@[simp] theorem State.respond_tod (r : Option Response) (s : State) :
    (s.respond r).tod = s.tod := rfl
@[simp] theorem State.respond_clkQ (r : Option Response) (s : State) :
    (s.respond r).clkQ = s.clkQ := rfl
@[simp] theorem State.respond_mode (r : Option Response) (s : State) :
    (s.respond r).mode = s.mode := rfl
@[simp] theorem State.respond_tie (r : Option Response) (s : State) :
    (s.respond r).tie = s.tie := rfl
@[simp] theorem State.respond_tPend (r : Option Response) (s : State) :
    (s.respond r).tPend = s.tPend := rfl
@[simp] theorem State.respond_btnN (r : Option Response) (s : State) :
    (s.respond r).btnN = s.btnN := rfl
@[simp] theorem State.respond_cfg (r : Option Response) (s : State) :
    (s.respond r).cfg = s.cfg := rfl
@[simp] theorem State.respond_stimuli (r : Option Response) (s : State) :
    (s.respond r).stimuli = s.stimuli := rfl
@[simp] theorem State.respond_response (r : Option Response) (s : State) :
    (s.respond r).response = r := rfl
@[simp] theorem State.respond_refusal (r : Option Response) (s : State) :
    (s.respond r).refusal = s.refusal := rfl
@[simp] theorem State.respond_storeScript (r : Option Response) (s : State) :
    (s.respond r).storeScript = s.storeScript := rfl
@[simp] theorem State.respond_storeReads (r : Option Response) (s : State) :
    (s.respond r).storeReads = s.storeReads := rfl

/-! `setup`. -/

@[simp] theorem setup_pwr (s : State) : (setup s).pwr = .off := rfl
@[simp] theorem setup_romSel (s : State) :
    (setup s).romSel = storeAnswer s.storeScript s.storeReads := rfl
@[simp] theorem setup_pressT (s : State) : (setup s).pressT = 0 := rfl
@[simp] theorem setup_idleT (s : State) : (setup s).idleT = 0 := rfl
@[simp] theorem setup_tod (s : State) : (setup s).tod = 0 := rfl
@[simp] theorem setup_clkQ (s : State) : (setup s).clkQ = false := rfl
@[simp] theorem setup_mode (s : State) : (setup s).mode = .run := rfl
@[simp] theorem setup_tie (s : State) : (setup s).tie = true := rfl
@[simp] theorem setup_tPend (s : State) : (setup s).tPend = false := rfl
@[simp] theorem setup_btnN (s : State) : (setup s).btnN = s.btnN := rfl
@[simp] theorem setup_cfg (s : State) : (setup s).cfg = s.cfg := rfl
@[simp] theorem setup_stimuli (s : State) : (setup s).stimuli = s.stimuli := rfl
@[simp] theorem setup_response (s : State) : (setup s).response = s.response := rfl
@[simp] theorem setup_refusal (s : State) : (setup s).refusal = s.refusal := rfl
@[simp] theorem setup_storeScript (s : State) : (setup s).storeScript = s.storeScript := rfl
@[simp] theorem setup_storeReads (s : State) : (setup s).storeReads = s.storeReads + 1 := rfl

/-! `powerUp`. -/

@[simp] theorem powerUp_pwr (s : State) : (powerUp s).pwr = .on := rfl
@[simp] theorem powerUp_romSel (s : State) : (powerUp s).romSel = s.romSel := rfl
@[simp] theorem powerUp_pressT (s : State) : (powerUp s).pressT = s.pressT := rfl
@[simp] theorem powerUp_idleT (s : State) : (powerUp s).idleT = s.idleT := rfl
@[simp] theorem powerUp_tod (s : State) : (powerUp s).tod = s.tod := rfl
@[simp] theorem powerUp_clkQ (s : State) : (powerUp s).clkQ = s.clkQ := rfl
@[simp] theorem powerUp_mode (s : State) : (powerUp s).mode = s.mode := rfl
@[simp] theorem powerUp_tie (s : State) : (powerUp s).tie = s.tie := rfl
@[simp] theorem powerUp_tPend (s : State) : (powerUp s).tPend = s.tPend := rfl
@[simp] theorem powerUp_btnN (s : State) : (powerUp s).btnN = s.btnN := rfl
@[simp] theorem powerUp_cfg (s : State) : (powerUp s).cfg = s.cfg := rfl
@[simp] theorem powerUp_stimuli (s : State) : (powerUp s).stimuli = s.stimuli := rfl
@[simp] theorem powerUp_response (s : State) : (powerUp s).response = s.response := rfl
@[simp] theorem powerUp_refusal (s : State) : (powerUp s).refusal = s.refusal := rfl
@[simp] theorem powerUp_storeScript (s : State) : (powerUp s).storeScript = s.storeScript := rfl
@[simp] theorem powerUp_storeReads (s : State) : (powerUp s).storeReads = s.storeReads := rfl

/-! `powerDown`. -/

@[simp] theorem powerDown_pwr (s : State) : (powerDown s).pwr = .off := rfl
@[simp] theorem powerDown_romSel (s : State) : (powerDown s).romSel = s.romSel := rfl
@[simp] theorem powerDown_pressT (s : State) : (powerDown s).pressT = s.pressT := rfl
@[simp] theorem powerDown_idleT (s : State) : (powerDown s).idleT = s.idleT := rfl
@[simp] theorem powerDown_tod (s : State) : (powerDown s).tod = s.tod := rfl
@[simp] theorem powerDown_clkQ (s : State) : (powerDown s).clkQ = s.clkQ := rfl
@[simp] theorem powerDown_mode (s : State) : (powerDown s).mode = s.mode := rfl
@[simp] theorem powerDown_tie (s : State) : (powerDown s).tie = s.tie := rfl
@[simp] theorem powerDown_tPend (s : State) : (powerDown s).tPend = s.tPend := rfl
@[simp] theorem powerDown_btnN (s : State) : (powerDown s).btnN = s.btnN := rfl
@[simp] theorem powerDown_cfg (s : State) : (powerDown s).cfg = s.cfg := rfl
@[simp] theorem powerDown_stimuli (s : State) : (powerDown s).stimuli = s.stimuli := rfl
@[simp] theorem powerDown_response (s : State) : (powerDown s).response = s.response := rfl
@[simp] theorem powerDown_refusal (s : State) : (powerDown s).refusal = s.refusal := rfl
@[simp] theorem powerDown_storeScript (s : State) : (powerDown s).storeScript = s.storeScript := rfl
@[simp] theorem powerDown_storeReads (s : State) : (powerDown s).storeReads = s.storeReads := rfl

/-! `hibernate`. -/

@[simp] theorem hibernate_pwr (s : State) : (hibernate s).pwr = s.pwr := rfl
@[simp] theorem hibernate_romSel (s : State) : (hibernate s).romSel = s.romSel := rfl
@[simp] theorem hibernate_pressT (s : State) : (hibernate s).pressT = s.pressT := rfl
@[simp] theorem hibernate_idleT (s : State) : (hibernate s).idleT = s.idleT := rfl
@[simp] theorem hibernate_tod (s : State) : (hibernate s).tod = s.tod := rfl
@[simp] theorem hibernate_clkQ (s : State) : (hibernate s).clkQ = s.clkQ := rfl
@[simp] theorem hibernate_mode (s : State) : (hibernate s).mode = .sleep := rfl
@[simp] theorem hibernate_tie (s : State) : (hibernate s).tie = false := rfl
@[simp] theorem hibernate_tPend (s : State) : (hibernate s).tPend = false := rfl
@[simp] theorem hibernate_btnN (s : State) : (hibernate s).btnN = s.btnN := rfl
@[simp] theorem hibernate_cfg (s : State) : (hibernate s).cfg = s.cfg := rfl
@[simp] theorem hibernate_stimuli (s : State) : (hibernate s).stimuli = s.stimuli := rfl
@[simp] theorem hibernate_response (s : State) : (hibernate s).response = s.response := rfl
@[simp] theorem hibernate_refusal (s : State) : (hibernate s).refusal = s.refusal := rfl
@[simp] theorem hibernate_storeScript (s : State) : (hibernate s).storeScript = s.storeScript := rfl
@[simp] theorem hibernate_storeReads (s : State) : (hibernate s).storeReads = s.storeReads := rfl

/-! `refuse`. -/

@[simp] theorem refuse_pwr (r : Refusal) (s : State) : (refuse r s).pwr = s.pwr := rfl
@[simp] theorem refuse_romSel (r : Refusal) (s : State) : (refuse r s).romSel = s.romSel := rfl
@[simp] theorem refuse_pressT (r : Refusal) (s : State) : (refuse r s).pressT = s.pressT := rfl
@[simp] theorem refuse_idleT (r : Refusal) (s : State) : (refuse r s).idleT = s.idleT := rfl
@[simp] theorem refuse_tod (r : Refusal) (s : State) : (refuse r s).tod = s.tod := rfl
@[simp] theorem refuse_clkQ (r : Refusal) (s : State) : (refuse r s).clkQ = s.clkQ := rfl
@[simp] theorem refuse_mode (r : Refusal) (s : State) : (refuse r s).mode = s.mode := rfl
@[simp] theorem refuse_tie (r : Refusal) (s : State) : (refuse r s).tie = s.tie := rfl
@[simp] theorem refuse_tPend (r : Refusal) (s : State) : (refuse r s).tPend = s.tPend := rfl
@[simp] theorem refuse_btnN (r : Refusal) (s : State) : (refuse r s).btnN = s.btnN := rfl
@[simp] theorem refuse_cfg (r : Refusal) (s : State) : (refuse r s).cfg = s.cfg := rfl
@[simp] theorem refuse_stimuli (r : Refusal) (s : State) : (refuse r s).stimuli = s.stimuli := rfl
@[simp] theorem refuse_response (r : Refusal) (s : State) : (refuse r s).response = none := rfl
@[simp] theorem refuse_refusal (r : Refusal) (s : State) :
    (refuse r s).refusal = some (s.refusal.getD r) := rfl
@[simp] theorem refuse_storeScript (r : Refusal) (s : State) :
    (refuse r s).storeScript = s.storeScript := rfl
@[simp] theorem refuse_storeReads (r : Refusal) (s : State) :
    (refuse r s).storeReads = s.storeReads := rfl

/-! `State.withFetchWord`. -/

@[simp] theorem State.withFetchWord_pwr (s : State) (n w : Nat) :
    (s.withFetchWord n w).pwr = s.pwr := rfl
@[simp] theorem State.withFetchWord_romSel (s : State) (n w : Nat) :
    (s.withFetchWord n w).romSel = s.romSel := rfl
@[simp] theorem State.withFetchWord_pressT (s : State) (n w : Nat) :
    (s.withFetchWord n w).pressT = s.pressT := rfl
@[simp] theorem State.withFetchWord_idleT (s : State) (n w : Nat) :
    (s.withFetchWord n w).idleT = s.idleT := rfl
@[simp] theorem State.withFetchWord_tod (s : State) (n w : Nat) :
    (s.withFetchWord n w).tod = s.tod := rfl
@[simp] theorem State.withFetchWord_clkQ (s : State) (n w : Nat) :
    (s.withFetchWord n w).clkQ = s.clkQ := rfl
@[simp] theorem State.withFetchWord_mode (s : State) (n w : Nat) :
    (s.withFetchWord n w).mode = s.mode := rfl
@[simp] theorem State.withFetchWord_tie (s : State) (n w : Nat) :
    (s.withFetchWord n w).tie = s.tie := rfl
@[simp] theorem State.withFetchWord_tPend (s : State) (n w : Nat) :
    (s.withFetchWord n w).tPend = s.tPend := rfl
@[simp] theorem State.withFetchWord_btnN (s : State) (n w : Nat) :
    (s.withFetchWord n w).btnN = s.btnN := rfl
@[simp] theorem State.withFetchWord_cfg (s : State) (n w : Nat) :
    (s.withFetchWord n w).cfg = s.cfg := rfl
@[simp] theorem State.withFetchWord_stimuli (s : State) (n w : Nat) :
    (s.withFetchWord n w).stimuli = (BitVec.ofNat n w).setWidth 8 :: s.stimuli := rfl
@[simp] theorem State.withFetchWord_response (s : State) (n w : Nat) :
    (s.withFetchWord n w).response = s.response := rfl
@[simp] theorem State.withFetchWord_refusal (s : State) (n w : Nat) :
    (s.withFetchWord n w).refusal = s.refusal := rfl
@[simp] theorem State.withFetchWord_storeScript (s : State) (n w : Nat) :
    (s.withFetchWord n w).storeScript = s.storeScript := rfl
@[simp] theorem State.withFetchWord_storeReads (s : State) (n w : Nat) :
    (s.withFetchWord n w).storeReads = s.storeReads := rfl

/-! The launch of a run (70_reset_and_hazards.md R273). -/

@[simp] theorem State.launch_pwr (c : Config) (b : Bool) (script : List RomBank) :
    (State.launch c b script).pwr = .off := rfl
@[simp] theorem State.launch_romSel (c : Config) (b : Bool) (script : List RomBank) :
    (State.launch c b script).romSel = storeAnswer script 0 := rfl
@[simp] theorem State.launch_pressT (c : Config) (b : Bool) (script : List RomBank) :
    (State.launch c b script).pressT = 0 := rfl
@[simp] theorem State.launch_idleT (c : Config) (b : Bool) (script : List RomBank) :
    (State.launch c b script).idleT = 0 := rfl
@[simp] theorem State.launch_tod (c : Config) (b : Bool) (script : List RomBank) :
    (State.launch c b script).tod = 0 := rfl
@[simp] theorem State.launch_clkQ (c : Config) (b : Bool) (script : List RomBank) :
    (State.launch c b script).clkQ = false := rfl
@[simp] theorem State.launch_mode (c : Config) (b : Bool) (script : List RomBank) :
    (State.launch c b script).mode = .run := rfl
@[simp] theorem State.launch_tie (c : Config) (b : Bool) (script : List RomBank) :
    (State.launch c b script).tie = true := rfl
@[simp] theorem State.launch_tPend (c : Config) (b : Bool) (script : List RomBank) :
    (State.launch c b script).tPend = false := rfl
@[simp] theorem State.launch_btnN (c : Config) (b : Bool) (script : List RomBank) :
    (State.launch c b script).btnN = b := rfl
@[simp] theorem State.launch_cfg (c : Config) (b : Bool) (script : List RomBank) :
    (State.launch c b script).cfg = c := rfl
@[simp] theorem State.launch_stimuli (c : Config) (b : Bool) (script : List RomBank) :
    (State.launch c b script).stimuli = [] := rfl
@[simp] theorem State.launch_response (c : Config) (b : Bool) (script : List RomBank) :
    (State.launch c b script).response = none := rfl
@[simp] theorem State.launch_refusal (c : Config) (b : Bool) (script : List RomBank) :
    (State.launch c b script).refusal = none := rfl
@[simp] theorem State.launch_storeScript (c : Config) (b : Bool) (script : List RomBank) :
    (State.launch c b script).storeScript = script := rfl
@[simp] theorem State.launch_storeReads (c : Config) (b : Bool) (script : List RomBank) :
    (State.launch c b script).storeReads = 1 := rfl

end Sys2Proof.Machine
end

