-- ==== Sys2Proof/Laws/Ops.lean ====
section
/-! SUPPORT. One lemma per shared operation saying what it can do; callers cite it instead of
unfolding the operation. -/

namespace Sys2Proof.Machine

/-! Counter arithmetic. -/

theorem satInc_eq_min (c : Config) (x : Nat) : satInc c x = min (x + 1) c.counterMax := by
  unfold satInc; split <;> omega

theorem satInc_le (c : Config) (x : Nat) : satInc c x ≤ c.counterMax := by
  rw [satInc_eq_min]; exact Nat.min_le_right ..

theorem counterMax_lt (c : Config) : c.counterMax < 2 ^ c.w :=
  Nat.sub_lt (Nat.two_pow_pos _) Nat.one_pos

/-- Below the top of the counter, the `W`-bit increment adds one (43_clock_divider.md R180). -/
theorem incW_eq (c : Config) {x : Nat} (h : x + 1 ≤ c.counterMax) : incW c x = x + 1 :=
  Nat.mod_eq_of_lt (Nat.lt_of_le_of_lt h (counterMax_lt c))

/-! The configuration (00_scope.md R9). -/

theorem wellFormed_iff (c : Config) :
    c.wellFormed = true ↔ 2 ≤ c.w ∧ c.short < c.long ∧ c.long < c.counterMax ∧
      c.idle < c.counterMax ∧ 1 ≤ c.clkDiv ∧ c.clkDiv ≤ c.counterMax := by
  simp [Config.wellFormed, and_assoc]

/-! The store (10_state.md R25). -/

theorem storeAnswer_fixed {script : List RomBank} {n : Nat} {b : RomBank}
    (h : script[n]? = some b) : storeAnswer script n = b := by
  simp [storeAnswer, h]

/-! Control-port operations (44_gpio_control.md R200, R201). -/

theorem controlPort_sleep {s : State} (h : s.mode = .sleep) (e : State → State)
    (r : State → Response) : controlPort e r s = s.respond (some .dropped) := by
  simp [controlPort, h]

theorem controlPort_run {s : State} (h : s.mode = .run) (e : State → State)
    (r : State → Response) : controlPort e r s = (e s).respond (some (r s)) := by
  simp [controlPort, h]

/-! The classifier (40_classifier.md R102). -/

theorem classify_pressed {s : State} (h : s.btnN = false) :
    classify s = (.none, { s with pressT := satInc s.cfg s.pressT, idleT := 0 }) := by
  simp [classify, State.pressed, h]

theorem classify_released {s : State} (h : s.btnN = true) :
    classify s = (releaseEvent s, { s with pressT := 0, idleT := satInc s.cfg s.idleT }) := by
  simp [classify, State.pressed, h]

/-- Everything a released sample can decide. -/
theorem releaseEvent_cases (s : State) :
    (releaseEvent s = .powerDown ∧ s.pwr = .on ∧ s.cfg.long < s.pressT) ∨
    (releaseEvent s = .powerUp ∧ s.pwr = .off ∧ s.cfg.short < s.pressT) ∨
    (releaseEvent s = .none ∧ (s.pwr = .on → s.pressT ≤ s.cfg.long) ∧
      (s.pwr = .off → s.pressT ≤ s.cfg.short)) := by
  unfold releaseEvent
  split <;> rename_i hp <;> split <;> simp_all

/-! The idle monitor and the divider. -/

/-- Everything `IdleCheck()` can do (42_idle_wake.md R150). -/
theorem idleCheck_cases (s : State) :
    (idleCheck s = hibernate s ∧ s.cfg.hibernateEn = true ∧ s.pwr = .off ∧ s.cfg.idle < s.idleT) ∨
    (idleCheck s = s ∧ ¬ (s.cfg.hibernateEn = true ∧ s.pwr = .off ∧ s.cfg.idle < s.idleT)) := by
  unfold idleCheck
  split
  · rename_i h; exact .inl ⟨rfl, h⟩
  · rename_i h; exact .inr ⟨rfl, h⟩

theorem clockStep_off {s : State} (h : s.pwr = .off) : clockStep s = s := by
  simp [clockStep, h]

/-- The divider's step while ON, where the counter is below the divisor (43_clock_divider.md R180). -/
theorem clockStep_on {s : State} (h : s.pwr = .on) (hc : s.cfg.wellFormed = true)
    (ht : s.tod < s.cfg.clkDiv) :
    clockStep s = { s with
      tod := if s.tod + 1 = s.cfg.clkDiv then 0 else s.tod + 1
      clkQ := if s.tod + 1 = s.cfg.clkDiv then !s.clkQ else s.clkQ } := by
  have hw := (wellFormed_iff _).1 hc
  have hi : incW s.cfg s.tod = s.tod + 1 := incW_eq _ (by omega)
  have hiff : s.cfg.clkDiv ≤ s.tod + 1 ↔ s.tod + 1 = s.cfg.clkDiv := by omega
  simp only [clockStep, h, hi, hiff, if_true]
  split <;> rfl

/-- What no divider step writes. -/
theorem clockStep_frame (s : State) :
    ∃ tod q, clockStep s = { s with tod := tod, clkQ := q } := by
  unfold clockStep
  split
  · split
    · exact ⟨_, _, rfl⟩
    · exact ⟨_, s.clkQ, rfl⟩
  · exact ⟨s.tod, s.clkQ, rfl⟩

theorem idleCheck_frame (s : State) :
    ∃ tie tPend mode, idleCheck s = { s with tie := tie, tPend := tPend, mode := mode } := by
  obtain ⟨h, -⟩ | ⟨h, -⟩ := idleCheck_cases s
  · exact ⟨_, _, _, h⟩
  · exact ⟨s.tie, s.tPend, s.mode, h⟩

theorem applyEvent_frame (e : Event) (s : State) :
    ∃ p, applyEvent e s = { s with pwr := p } := by
  cases e
  · exact ⟨s.pwr, rfl⟩
  · exact ⟨.on, rfl⟩
  · exact ⟨.off, rfl⟩

theorem classify_frame (s : State) :
    ∃ p i, (classify s).2 = { s with pressT := p, idleT := i } := by
  unfold classify
  split <;> exact ⟨_, _, rfl⟩

/-- What a taken tick can write (40_classifier.md R101): PWR, the three counters, CLKQ, MODE, TIE and
TPEND, and nothing else. -/
theorem tickHandler_frame (s : State) :
    ∃ pwr p i tod q mode tie tPend, tickHandler s = { s with
      pwr := pwr, pressT := p, idleT := i, tod := tod, clkQ := q, mode := mode
      tie := tie, tPend := tPend } := by
  obtain ⟨p, i, h1⟩ := classify_frame s
  obtain ⟨pwr, h2⟩ := applyEvent_frame (classify s).1 (classify s).2
  obtain ⟨tie, tPend, mode, h3⟩ := idleCheck_frame (applyEvent (classify s).1 (classify s).2)
  obtain ⟨tod, q, h4⟩ := clockStep_frame (idleCheck (applyEvent (classify s).1 (classify s).2))
  exact ⟨pwr, p, i, tod, q, mode, tie, tPend, by rw [tickHandler, h4, h3, h2, h1]⟩

/-! Presenting stimuli. -/

theorem fetch_cons {s : State} {w : Byte} {rest : List Byte} (h : s.stimuli = w :: rest) :
    fetch s = some (w, { s with stimuli := rest }) := by
  simp [fetch, h]

theorem fetch_nil {s : State} (h : s.stimuli = []) : fetch s = none := by
  simp [fetch, h]

/-- Everything one step with a valid configuration can do. -/
theorem step_cases {s : State} (hc : s.cfg.wellFormed = true) :
    (s.stimuli = [] ∧ step s = .next s) ∨
    (∃ w rest i, s.stimuli = w :: rest ∧ decode w = .ok i ∧
      step s = exec i { s with stimuli := rest }) ∨
    (∃ w rest e, s.stimuli = w :: rest ∧ decode w = .error e ∧
      step s = .next (refuse (.reservedWord w) { s with stimuli := rest })) := by
  cases hs : s.stimuli with
  | nil => exact .inl ⟨rfl, by simp [step, hc, fetch_nil hs]⟩
  | cons w rest =>
    right
    cases hd : decode w with
    | ok i => exact .inl ⟨w, rest, i, rfl, hd, by simp [step, hc, fetch_cons hs, hd]⟩
    | error e => exact .inr ⟨w, rest, e, rfl, hd, by simp [step, hc, fetch_cons hs, hd]⟩

end Sys2Proof.Machine
end

