-- ==== Sys2Proof/Laws/Tick.lean ====
section
/-! SUPPORT. What one taken tick leaves in each field (spec/40_classifier.md R101). -/

namespace Sys2Proof.Machine

/-- The fields no taken tick writes. -/
theorem tickHandler_keeps (s : State) :
    (tickHandler s).romSel = s.romSel ∧ (tickHandler s).btnN = s.btnN ∧
    (tickHandler s).cfg = s.cfg ∧ (tickHandler s).stimuli = s.stimuli ∧
    (tickHandler s).response = s.response ∧ (tickHandler s).refusal = s.refusal ∧
    (tickHandler s).storeScript = s.storeScript ∧ (tickHandler s).storeReads = s.storeReads := by
  obtain ⟨_, _, _, _, _, _, _, _, h⟩ := tickHandler_frame s
  rw [h]
  exact ⟨rfl, rfl, rfl, rfl, rfl, rfl, rfl, rfl⟩

/-- The timers (R102, R107). -/
theorem tickHandler_timers (s : State) :
    (s.btnN = false →
      (tickHandler s).pressT = satInc s.cfg s.pressT ∧ (tickHandler s).idleT = 0) ∧
    (s.btnN = true →
      (tickHandler s).pressT = 0 ∧ (tickHandler s).idleT = satInc s.cfg s.idleT) := by
  obtain ⟨pwr, h2⟩ := applyEvent_frame (classify s).1 (classify s).2
  obtain ⟨tie, tPend, mode, h3⟩ := idleCheck_frame (applyEvent (classify s).1 (classify s).2)
  obtain ⟨tod, q, h4⟩ := clockStep_frame (idleCheck (applyEvent (classify s).1 (classify s).2))
  rw [tickHandler, h4, h3, h2]
  constructor <;> intro hb
  · simp [classify_pressed hb]
  · simp [classify_released hb]

/-- PWR (R102, R106). -/
theorem tickHandler_pwr (s : State) :
    (tickHandler s).pwr =
      if s.btnN = true ∧ s.pwr = .off ∧ s.cfg.short < s.pressT then .on
      else if s.btnN = true ∧ s.pwr = .on ∧ s.cfg.long < s.pressT then .off
      else s.pwr := by
  obtain ⟨tie, tPend, mode, h3⟩ := idleCheck_frame (applyEvent (classify s).1 (classify s).2)
  obtain ⟨tod, q, h4⟩ := clockStep_frame (idleCheck (applyEvent (classify s).1 (classify s).2))
  rw [tickHandler, h4, h3]
  cases hb : s.btnN
  · simp [classify_pressed hb, applyEvent]
  · simp only [classify_released hb]
    obtain ⟨h1, h2, h3⟩ | ⟨h1, h2, h3⟩ | ⟨h1, h2, h3⟩ := releaseEvent_cases s
    · simp [h1, applyEvent, h2, h3]
    · simp [h1, applyEvent, h2, h3]
    · simp only [h1, applyEvent]
      cases hp : s.pwr <;> simp_all

/-- MODE, TIE and TPEND: kept, or hibernation on the state the event leaves (42_idle_wake.md R150). -/
theorem tickHandler_mode (s : State) :
    ((tickHandler s).mode = s.mode ∧ (tickHandler s).tie = s.tie ∧
      (tickHandler s).tPend = s.tPend ∧
      ¬ (s.cfg.hibernateEn = true ∧ (tickHandler s).pwr = .off ∧
        s.cfg.idle < (tickHandler s).idleT)) ∨
    ((tickHandler s).mode = .sleep ∧ (tickHandler s).tie = false ∧
      (tickHandler s).tPend = false ∧ s.cfg.hibernateEn = true ∧ (tickHandler s).pwr = .off ∧
      s.cfg.idle < (tickHandler s).idleT) := by
  obtain ⟨p, i, h1⟩ := classify_frame s
  obtain ⟨pwr, h2⟩ := applyEvent_frame (classify s).1 (classify s).2
  obtain ⟨tod, q, h4⟩ := clockStep_frame (idleCheck (applyEvent (classify s).1 (classify s).2))
  rw [tickHandler, h4]
  obtain ⟨h3, h5⟩ | ⟨h3, h5⟩ := idleCheck_cases (applyEvent (classify s).1 (classify s).2)
  · right; rw [h3]; rw [h2, h1] at h5 ⊢; simpa using h5
  · left; rw [h3]; rw [h2, h1] at h5 ⊢; simpa using h5

/-- TOD and CLKQ: held, or the host is left ON (43_clock_divider.md R181). -/
theorem tickHandler_divider (s : State) :
    ((tickHandler s).tod = s.tod ∧ (tickHandler s).clkQ = s.clkQ) ∨ (tickHandler s).pwr = .on := by
  obtain ⟨p, i, h1⟩ := classify_frame s
  obtain ⟨pwr, h2⟩ := applyEvent_frame (classify s).1 (classify s).2
  obtain ⟨tie, tPend, mode, h3⟩ := idleCheck_frame (applyEvent (classify s).1 (classify s).2)
  rw [tickHandler]
  cases hp : (idleCheck (applyEvent (classify s).1 (classify s).2)).pwr
  · left; rw [clockStep_off hp, h3, h2, h1]; exact ⟨rfl, rfl⟩
  · right
    obtain ⟨tod, q, h4⟩ := clockStep_frame (idleCheck (applyEvent (classify s).1 (classify s).2))
    rw [h4]; exact hp

/-- A taken tick keeps TOD below the divisor (10_state.md R26). -/
theorem tickHandler_tod_lt {s : State} (hc : s.cfg.wellFormed = true) (ht : s.tod < s.cfg.clkDiv) :
    (tickHandler s).tod < s.cfg.clkDiv := by
  obtain ⟨p, i, h1⟩ := classify_frame s
  obtain ⟨pwr, h2⟩ := applyEvent_frame (classify s).1 (classify s).2
  obtain ⟨tie, tPend, mode, h3⟩ := idleCheck_frame (applyEvent (classify s).1 (classify s).2)
  have on : ∀ u : State, u.cfg = s.cfg → u.tod = s.tod → u.pwr = .on →
      (clockStep u).tod < s.cfg.clkDiv := by
    intro u a b c
    rw [clockStep_on c (by rw [a]; exact hc) (by rw [a, b]; exact ht)]
    simp only [a, b]
    split <;> omega
  rw [tickHandler]
  cases hp : (idleCheck (applyEvent (classify s).1 (classify s).2)).pwr
  · rw [clockStep_off hp, h3, h2, h1]; exact ht
  · exact on _ (by rw [h3, h2, h1]) (by rw [h3, h2, h1]) hp

/-- The result port plays no part in a tick. -/
theorem tickHandler_respond (r : Option Response) (s : State) :
    tickHandler (s.respond r) = (tickHandler s).respond r := by
  have hc : classify (s.respond r) = ((classify s).1, (classify s).2.respond r) := by
    rcases Bool.eq_false_or_eq_true s.btnN with hb | hb
    · rw [classify_released hb, classify_released (by exact hb)]; rfl
    · rw [classify_pressed hb, classify_pressed (by exact hb)]; rfl
  have ha : ∀ e u, applyEvent e (State.respond r u) = (applyEvent e u).respond r := by
    intro e u; cases e <;> rfl
  have hi : ∀ u, idleCheck (State.respond r u) = (idleCheck u).respond r := by
    intro u
    by_cases h : u.cfg.hibernateEn = true ∧ u.pwr = .off ∧ u.cfg.idle < u.idleT
    · rw [idleCheck, idleCheck, if_pos h, if_pos (by exact h)]; rfl
    · rw [idleCheck, idleCheck, if_neg h, if_neg (by exact h)]
  have hk : ∀ u, clockStep (State.respond r u) = (clockStep u).respond r := by
    intro u
    by_cases h : u.pwr = .on
    · by_cases h2 : u.cfg.clkDiv ≤ incW u.cfg u.tod <;> simp [clockStep, h, h2] <;>
        simp [State.respond]
    · simp [clockStep, h]
  simp only [tickHandler, hc, ha, hi, hk]

end Sys2Proof.Machine
end

