-- ==== Sys2Proof/Laws/Exec.lean ====
section
/-! SUPPORT. The inversion of `exec`: a stimulus takes a tick, runs `Setup()`, or is one of a few plain
writes; whole-machine rules are read off these three lemmas. -/

namespace Sys2Proof.Machine

theorem mode_cases (s : State) : s.mode = .run ∨ s.mode = .sleep := by cases s.mode <;> simp

theorem exec_tick_taken {s : State} (hm : s.mode = .run) (ht : s.tie = true) :
    exec .tick s = .next ((tickHandler s).respond none) := by
  simp [exec, execTick, presentTick, hm, ht]

theorem exec_unmask_held {s : State} (hm : s.mode = .run) (hp : s.tPend = true) :
    exec .tickUnmask s =
      .next ((tickHandler { s with tie := true, tPend := false }).respond (some .ok)) := by
  simp [exec, execTickUnmask, controlPort_run hm, unmaskTicks, hp]

/-- A taken tick is the handler, on the state with ticks enabled and nothing else of it changed but
the pending bit that an unmask clears. -/
theorem exec_takesTick {i : Instr} {s t : State} (h : TakesTick i s) (e : exec i s = .next t) :
    ∃ r u, u = { s with tie := true, tPend := u.tPend } ∧ t = (tickHandler u).respond r := by
  obtain ⟨hm, ⟨rfl, ht⟩ | ⟨rfl, hp⟩⟩ := h
  · rw [exec_tick_taken hm ht] at e; cases e
    exact ⟨none, s, by cases s; simp_all, rfl⟩
  · rw [exec_unmask_held hm hp] at e; cases e
    exact ⟨some .ok, { s with tie := true, tPend := false }, rfl, rfl⟩

theorem not_runsSetup_of_takesTick {i : Instr} {s : State} (h : TakesTick i s) :
    ¬ RunsSetup i s := by
  rintro (rfl | ⟨l, rfl, -⟩) <;> simp [TakesTick] at h

/-- A stimulus that runs `Setup()`: the setup state, with the level of a PIN. -/
theorem exec_runsSetup {i : Instr} {s t : State} (h : RunsSetup i s) (e : exec i s = .next t) :
    t = { setup s with response := none, btnN := t.btnN } ∧
    (i = .reset → t.btnN = s.btnN) ∧ (∀ l, i = .pin l → t.btnN = l) := by
  rcases h with rfl | ⟨l, rfl, hm, hl⟩
  · simp only [exec, execReset, Host.Outcome.next.injEq] at e
    subst e
    simp [State.respond, setup]
  · simp only [exec, execPin, presentPin, hm, State.pinEdge, bne_iff_ne, ne_eq, hl,
      not_false_eq_true, and_self, if_true, Host.Outcome.next.injEq] at e
    subst e
    simp [State.respond, setup]

/-- Every other stimulus: asleep nothing but the result; awake one plain write. -/
theorem exec_otherwise {i : Instr} {s t : State} (ht : ¬ TakesTick i s) (hs : ¬ RunsSetup i s)
    (e : exec i s = .next t) :
    (s.mode = .sleep ∧ t = { s with response := t.response }) ∨
    (s.mode = .run ∧
      ((i = .pwrUp ∧ t = { s with pwr := .on, response := t.response }) ∨
       (i = .pwrDown ∧ t = { s with pwr := .off, response := t.response }) ∨
       (i = .romLow ∧ t = { s with romSel := .low, response := t.response }) ∨
       (i = .romHigh ∧ t = { s with romSel := .high, response := t.response }) ∨
       (∃ l, i = .pin l ∧ t = { s with btnN := l, response := t.response }) ∨
       (i = .tickMask ∧ t = { s with tie := false, response := t.response }) ∨
       (i = .tickUnmask ∧ s.tPend = false ∧ t = { s with tie := true, response := t.response }) ∨
       (i = .tick ∧ s.tie = false ∧ t = { s with tPend := true, response := t.response }) ∨
       ((i = .nop ∨ i = .rdStatus) ∧ t = { s with response := t.response }))) := by
  rcases mode_cases s with hm | hm
  · right
    refine ⟨hm, ?_⟩
    cases i
    case tick =>
      have h : s.tie = false := by simpa [TakesTick, hm] using ht
      simp only [exec, execTick, presentTick, hm, h, Host.Outcome.next.injEq] at e
      subst e; simp [State.respond, h, hm]
    case tickUnmask =>
      have h : s.tPend = false := by simpa [TakesTick, hm] using ht
      simp only [exec, execTickUnmask, controlPort_run hm, unmaskTicks, h,
        Host.Outcome.next.injEq] at e
      subst e; simp [State.respond, h]
    case reset => simp [RunsSetup] at hs
    case pin l =>
      simp only [exec, execPin, presentPin, hm, Host.Outcome.next.injEq] at e
      subst e; simp [State.respond, hm]
    all_goals
      simp only [exec, execNop, execPwrUp, execPwrDown, execRomLow, execRomHigh, execTickMask,
        execRdStatus, controlPort_run hm, Host.Outcome.next.injEq] at e
      subst e
      simp [State.respond, powerUp, powerDown, id]
  · left
    refine ⟨hm, ?_⟩
    cases i
    case tick =>
      simp only [exec, execTick, presentTick, hm, if_true, Host.Outcome.next.injEq] at e
      subst e; rfl
    case reset => simp [RunsSetup] at hs
    case pin l =>
      have hl : l = s.btnN := by simpa [RunsSetup, hm] using hs
      subst hl
      simp only [exec, execPin, presentPin, State.pinEdge, bne_self_eq_false, Bool.false_eq_true,
        and_false, if_false, Host.Outcome.next.injEq] at e
      subst e; rfl
    all_goals
      simp only [exec, execNop, execPwrUp, execPwrDown, execRomLow, execRomHigh, execTickMask,
        execTickUnmask, execRdStatus, controlPort_sleep hm, Host.Outcome.next.injEq] at e
      subst e
      rfl

end Sys2Proof.Machine
end

