-- ==== Sys2Proof/Laws/PerInstr.lean ====
section
/-! SUPPORT. Statements made per instruction. RoundTrip: the decoder reads back what the encoder
writes (spec/30_encoding.md R77, R78). -/

namespace Sys2Proof.Laws.RoundTrip

/-- A well-formed stimulus decodes from its own word. -/
def Statement (i : Instr) : Prop := i.wellFormed = true → decode (encode i) = .ok i

theorem nop : Statement .nop := fun _ => rfl
theorem pwrUp : Statement .pwrUp := fun _ => rfl
theorem pwrDown : Statement .pwrDown := fun _ => rfl
theorem romLow : Statement .romLow := fun _ => rfl
theorem romHigh : Statement .romHigh := fun _ => rfl
theorem tickMask : Statement .tickMask := fun _ => rfl
theorem tickUnmask : Statement .tickUnmask := fun _ => rfl
theorem rdStatus : Statement .rdStatus := fun _ => rfl
theorem tick : Statement .tick := fun _ => rfl
theorem pin (level : Bool) : Statement (.pin level) := fun _ => by cases level <;> rfl
theorem reset : Statement .reset := fun _ => rfl

end Sys2Proof.Laws.RoundTrip
end

