-- ==== Sys2Proof/Laws/Run.lean ====
section
/-! SUPPORT. Runs: one step, then the rest; a run cut in two; the host's run is this one. -/

namespace Sys2Proof.Machine

theorem runSteps_zero (s : State) : runSteps 0 s = .next s := rfl

theorem runSteps_step {s t : State} (h : step s = .next t) (n : Nat) :
    runSteps (n + 1) s = runSteps n t := by
  rw [runSteps, h]

theorem runSteps_add {m : Nat} {s t : State} (h : runSteps m s = .next t) (n : Nat) :
    runSteps (m + n) s = runSteps n t := by
  induction m generalizing s with
  | zero => cases h; rw [Nat.zero_add]
  | succ m ih =>
    rw [Nat.add_right_comm, runSteps]
    rw [runSteps] at h
    split at h
    · exact ih h
    · exact nomatch h
    · exact nomatch h

theorem core_run_next (M : Host.Core) {s t : M.State} (h : M.step s = .next t) (n : Nat) :
    M.run (n + 1) s = M.run n t := by
  rw [Host.Core.run, h]

theorem core_run_refused (M : Host.Core) {s : M.State} {r : M.Refusal} (h : M.step s = .refused r)
    (n : Nat) : M.run (n + 1) s = .refused r := by
  rw [Host.Core.run, h]

theorem runSteps_refused {s : State} {r : Refusal} (h : step s = .refused r) (n : Nat) :
    runSteps (n + 1) s = .refused r := by
  rw [runSteps, h]

theorem runSteps_eq_core (n : Nat) (s : State) :
    runSteps n s = Host.Core.run Sys2Proof.core n s := by
  induction n generalizing s with
  | zero => rfl
  | succ n ih =>
    cases h : step s with
    | next t => exact (runSteps_step h n).trans ((ih t).trans (core_run_next Sys2Proof.core h n).symm)
    | fault r => exact nomatch r
    | refused r => exact (runSteps_refused h n).trans (core_run_refused Sys2Proof.core h n).symm

/-- A run through words that are stimuli, one stimulus at a time. -/
theorem runSteps_cons {s t : State} {w : Byte} {rest : List Byte} {i : Instr}
    (hc : s.cfg.wellFormed = true) (hs : s.stimuli = w :: rest) (hd : decode w = .ok i)
    (he : exec i { s with stimuli := rest } = .next t) (n : Nat) :
    runSteps (n + 1) s = runSteps n t :=
  runSteps_step (by simp only [step, hc, if_true, fetch_cons hs, hd, he]) n

end Sys2Proof.Machine
end

