-- ==== Sys2Proof/Tests/Slice0.lean ====
section
/-! SUPPORT. Tests: the check on configurations, decoding of words written from the spec's formats,
one-step vectors of spec/95_test_vectors.md, and for every obligation with hypotheses a state and
operands that meet them. Expected values come from the spec's files named beside them. -/

namespace Sys2Proof.Machine.Tests

/-! The test configuration and the start state of 95_test_vectors.md section 0. -/

/-- TC. -/
def tc : Config :=
  { w := 4, short := 2, long := 5, idle := 3, clkDiv := 2, hibernateEn := true, tickHz := 30 }

/-- S0; the store holds LOW at the launch and at the next `Setup()`. -/
def s0 : State := State.launch tc true [.low, .low]

/-- The start state of the vectors in SLEEP. -/
def asleep : State := { s0 with mode := .sleep, tie := false, idleT := 4 }

/-- S0 with ticks masked and one held. -/
def held : State := { s0 with tie := false, tPend := true }

/-- The pins while OFF. -/
def pinsOff : Pins := { pwrEnN := true, romSel := false, clkOut := .z }

/-- The pins while ON. -/
def pinsOn (rom : Bool) (clk : ClockPin) : Pins := { pwrEnN := false, romSel := rom, clkOut := clk }

/-- The step that presents `w` to `s` ends in `t`, with pins `p`. -/
def gives (w : Byte) (s t : State) (p : Pins) : Bool :=
  match step { s with stimuli := [w] } with
  | .next u => decide (u = t) && decide (u.pins = p)
  | .fault _ => false
  | .refused _ => false

/-- The step that presents `w` to `s` changes nothing and sets the refusal mark. -/
def refuses (w : Byte) (s : State) : Bool :=
  gives w s { s with refusal := some (.reservedWord w) } s.pins

/-! Well-formedness: 00_scope.md R9, each constraint broken once. -/

theorem test_wf_tc : tc.wellFormed = true := by decide
theorem test_wf_reference : (Config.reference 10 60 1).wellFormed = true := by decide
theorem test_wf_width_one : (Config.wellFormed { tc with w := 1 }) = false := by decide
theorem test_wf_short_not_below_long : (Config.wellFormed { tc with short := 5 }) = false := by decide
theorem test_wf_long_at_saturation : (Config.wellFormed { tc with long := 15 }) = false := by decide
theorem test_wf_idle_at_saturation : (Config.wellFormed { tc with idle := 15 }) = false := by decide
theorem test_wf_div_zero : (Config.wellFormed { tc with clkDiv := 0 }) = false := by decide
theorem test_wf_div_too_wide : (Config.wellFormed { tc with clkDiv := 16 }) = false := by decide
theorem test_wf_bounds_reached :
    (Config.wellFormed { tc with short := 0, long := 14, idle := 14, clkDiv := 15 }) = true := by decide
theorem test_wf_step_refuses_invalid :
    (step { s0 with cfg := { tc with clkDiv := 0 }, stimuli := [0x40#8] } matches
      .refused .invalidConfiguration) = true := by decide
/-- The least width: with `w = 1` no `long` meets `short < long < 2^w - 1` either. -/
theorem test_wf_width_two_is_enough :
    (Config.wellFormed { tc with w := 2, short := 0, long := 1, idle := 0, clkDiv := 1 }) = true := by
  decide

/-! Decoding: words written bit by bit from 30_encoding.md R72 to R77. -/

theorem test_decode_nop : decode 0b00000000#8 = .ok .nop := by decide
theorem test_decode_pwr_up : decode 0b00000001#8 = .ok .pwrUp := by decide
theorem test_decode_pwr_down : decode 0b00000010#8 = .ok .pwrDown := by decide
theorem test_decode_rom_low : decode 0b00000011#8 = .ok .romLow := by decide
theorem test_decode_rom_high : decode 0b00000100#8 = .ok .romHigh := by decide
theorem test_decode_tick_mask : decode 0b00000101#8 = .ok .tickMask := by decide
theorem test_decode_tick_unmask : decode 0b00000110#8 = .ok .tickUnmask := by decide
theorem test_decode_rd_status : decode 0b00000111#8 = .ok .rdStatus := by decide
theorem test_decode_tick : decode 0b01000000#8 = .ok .tick := by decide
theorem test_decode_pin_pressed : decode 0b10000000#8 = .ok (.pin false) := by decide
theorem test_decode_pin_released : decode 0b10000001#8 = .ok (.pin true) := by decide
theorem test_decode_reset : decode 0b11000000#8 = .ok .reset := by decide
/-- The reserved words of 95_test_vectors.md X1 to X5, X7, each by the format it breaks. -/
theorem test_decode_reserved :
    decode 0x08#8 = .error .reservedCtl ∧ decode 0x10#8 = .error .reservedCtl ∧
    decode 0x3F#8 = .error .reservedCtl ∧ decode 0x41#8 = .error .reservedTick ∧
    decode 0x82#8 = .error .reservedPin ∧ decode 0xC1#8 = .error .reservedReset := by decide
theorem test_decode_bytes :
    decodeBytes [0x81#8, 0x40#8] = .ok (.pin true, [0x40#8]) ∧
    decodeBytes [] = .error .noWord := by decide
theorem test_decode_table_word :
    decodeTableWord 8 0xC0 = some .reset ∧ decodeTableWord 8 0xFF = none := by decide

/-! Vectors of 95_test_vectors.md section 2, one step each, named by their ids. -/

/-- X1, X5, X6. -/
theorem test_reserved_awake :
    refuses 0x08#8 s0 = true ∧ refuses 0xC1#8 s0 = true ∧ refuses 0xFF#8 s0 = true := by decide
/-- X7. -/
theorem test_reserved_asleep : refuses 0x3F#8 asleep = true := by decide

/-- T4. -/
theorem test_tick_T4_power_up :
    gives 0x40#8 { s0 with pressT := 3 } { s0 with pwr := .on, idleT := 1, tod := 1 }
      (pinsOn false .low) = true := by decide
/-- I1. -/
theorem test_tick_I1_hibernates :
    gives 0x40#8 { s0 with idleT := 3 } { s0 with idleT := 4, mode := .sleep, tie := false }
      pinsOff = true := by decide
/-- T1, T2, T3: counting, saturation, a press too short. -/
theorem test_classifier_T1_T2_T3 :
    classify { s0 with btnN := false, pressT := 4 } = (.none, { s0 with btnN := false, pressT := 5 }) ∧
    classify { s0 with btnN := false, pressT := 15 } = (.none, { s0 with btnN := false, pressT := 15 }) ∧
    classify { s0 with pressT := 2 } = (.none, { s0 with idleT := 1 }) := by decide
/-- T6, T7: the press threshold while ON. -/
theorem test_classifier_T6_T7 :
    (classify { s0 with pwr := .on, pressT := 5 }).1 = .none ∧
    (classify { s0 with pwr := .on, pressT := 6 }).1 = .powerDown := by decide
/-- I2, I9: the idle threshold is strict, and the path can be absent. -/
theorem test_idle_check_I2_I9 :
    idleCheck { s0 with idleT := 3 } = { s0 with idleT := 3 } ∧
    (idleCheck { s0 with cfg := { tc with hibernateEn := false }, idleT := 4 }).mode = .run := by decide
/-- K2, K4, K6: toggle, gate, CLK_DIV = 1. -/
theorem test_clock_step_K2_K4_K6 :
    clockStep { s0 with pwr := .on, tod := 1 } = { s0 with pwr := .on, tod := 0, clkQ := true } ∧
    clockStep { s0 with tod := 1, clkQ := true } = { s0 with tod := 1, clkQ := true } ∧
    (clockStep { s0 with cfg := { tc with clkDiv := 1 }, pwr := .on }).clkQ = true := by decide

/-- PW1. -/
theorem test_pwr_up_PW1 :
    gives 0x01#8 { s0 with romSel := .high, clkQ := true, tod := 1 }
      { s0 with romSel := .high, clkQ := true, tod := 1, pwr := .on, response := some .ok }
      (pinsOn true .high) = true := by decide
/-- PW5. -/
theorem test_pwr_up_PW5_dropped :
    gives 0x01#8 asleep { asleep with response := some .dropped } pinsOff = true := by decide
/-- PW3. -/
theorem test_pwr_down_PW3 :
    gives 0x02#8 { s0 with pwr := .on, romSel := .high, clkQ := true, idleT := 7 }
      { s0 with romSel := .high, clkQ := true, idleT := 7, response := some .ok } pinsOff = true := by
  decide
/-- G1. -/
theorem test_rom_low_G1 :
    gives 0x03#8 { s0 with pwr := .on, romSel := .high } { s0 with pwr := .on, response := some .ok }
      (pinsOn false .low) = true := by decide
/-- G2. -/
theorem test_rom_high_G2 :
    gives 0x04#8 s0 { s0 with romSel := .high, response := some .ok } pinsOff = true := by decide
/-- G3. -/
theorem test_rom_high_G3 :
    gives 0x04#8 { s0 with pwr := .on } { s0 with pwr := .on, romSel := .high, response := some .ok }
      (pinsOn true .low) = true := by decide
/-- G4. -/
theorem test_tick_mask_G4 :
    gives 0x05#8 s0 { s0 with tie := false, response := some .ok } pinsOff = true := by decide
/-- G5. -/
theorem test_tick_unmask_G5 :
    gives 0x06#8 { held with btnN := false, pressT := 2 }
      { s0 with btnN := false, pressT := 3, response := some .ok } pinsOff = true := by decide
/-- G7. -/
theorem test_tick_unmask_G7_hibernates :
    gives 0x06#8 { held with idleT := 3 } { asleep with response := some .ok } pinsOff = true := by
  decide
/-- G8. -/
theorem test_rd_status_G8 :
    gives 0x07#8 { s0 with pwr := .on, romSel := .high, clkQ := true }
      { s0 with pwr := .on, romSel := .high, clkQ := true, response := some (.okStatus 0xB7#8) }
      (pinsOn true .high) = true := by decide
/-- G10. -/
theorem test_rd_status_G10 :
    gives 0x07#8 { held with btnN := false }
      { held with btnN := false, response := some (.okStatus 0x48#8) } pinsOff = true := by decide
/-- G11. -/
theorem test_nop_G11 : gives 0x00#8 s0 { s0 with response := some .ok } pinsOff = true := by decide
/-- I4. -/
theorem test_pin_I4_wakes :
    gives 0x80#8 { asleep with romSel := .high, clkQ := true, tod := 1 }
      { s0 with btnN := false, storeReads := 2 } pinsOff = true := by decide
/-- I5. -/
theorem test_pin_I5_no_edge : gives 0x81#8 asleep asleep pinsOff = true := by decide
/-- RS1. -/
theorem test_reset_RS1 :
    gives 0xC0#8 { s0 with pwr := .on, pressT := 3, tod := 1, clkQ := true, storeScript := [.low, .high] }
      { s0 with romSel := .high, storeScript := [.low, .high], storeReads := 2 } pinsOff = true := by
  decide
/-- RS3. -/
theorem test_reset_RS3 :
    gives 0xC0#8 { held with btnN := false, pressT := 5 } { s0 with btnN := false, storeReads := 2 }
      pinsOff = true := by decide

/-- `exec` and the fetched word agree on the state after reset, whatever the store answered. -/
theorem test_with_fetch_word :
    step (State.reset.withFetchWord 8 0x05) =
      .next { State.reset with tie := false, response := some .ok } := rfl

/-! The text form: 30_encoding.md R82 to R84. -/

theorem test_text_pin : parseLine "PIN 0 ; press".toList = some [.pin false] := by decide
theorem test_text_ticks : parseLine "ticks 3".toList = some [.tick, .tick, .tick] := by decide
theorem test_text_hold : parseLine "HOLD 1".toList = some [.pin false, .tick, .pin true, .tick] := by
  decide
theorem test_text_serial :
    serialStimulus "RomHigh".toList = some .romHigh ∧ serialStimulus "version".toList = none := by
  decide
theorem test_text_operand_refused :
    parseLine "NOP 1".toList = none ∧ parseLine "PIN 2".toList = none := by decide

/-! Witnesses: for each obligation with hypotheses, a state and operands that meet them together. -/

theorem s0_inv : s0.Inv := by constructor <;> decide
theorem asleep_inv : asleep.Inv := by constructor <;> decide

/-- A state with the words of `is` still to be presented. -/
def queued (s : State) (is : List Instr) : State := { s with stimuli := encodeAll is }

theorem queued_inv {s : State} (h : s.Inv) (is : List Instr) : (queued s is).Inv :=
  ⟨h.config, h.offRomPin, h.sleepPwr, h.sleepTie, h.sleepTPend, h.tod, h.pressIdle, h.pressMax,
    h.idleMax, h.sleepReleased, h.sleepEnabled, h.sleepIdle, h.heldMasked⟩

theorem witness_RunStartsInTheSetupState : State.storeReads { s0 with storeReads := 0 } = 0 := by decide
theorem witness_LaunchMeetsTheInvariants : tc.wellFormed = true := by decide
theorem witness_StepKeepsTheInvariants :
    (queued s0 [.tick]).Inv ∧ step (queued s0 [.tick]) = .next { s0 with idleT := 1 } :=
  ⟨queued_inv s0_inv _, rfl⟩
theorem witness_StepRunsTheDecodedStimulus :
    (queued s0 [.tick, .nop]).cfg.wellFormed = true ∧
    (queued s0 [.tick, .nop]).stimuli = 0x40#8 :: [0x00#8] ∧ decode 0x40#8 = .ok .tick := by decide
theorem not_stimulus_word (w : Byte)
    (h : w ∈ [0x08#8, 0x10#8, 0x3F#8, 0x41#8, 0x7F#8, 0x82#8, 0xBF#8, 0xC1#8, 0xFF#8]) :
    ∀ i, encode i ≠ w := by
  intro i
  revert w
  cases i
  case pin l => cases l <;> decide
  all_goals decide
theorem witness_ReservedWordOnlySetsTheRefusalMark :
    State.stimuli { s0 with stimuli := [0x08#8] } = 0x08#8 :: [] ∧ s0.cfg.wellFormed = true ∧
    ∀ i, encode i ≠ 0x08#8 := ⟨rfl, by decide, not_stimulus_word _ (by decide)⟩
theorem witness_NoStimulusClearsTheRefusalMark :
    step { queued s0 [.reset] with refusal := some (.reservedWord 0xFF#8) } =
      .next { s0 with storeReads := 2, refusal := some (.reservedWord 0xFF#8) } ∧
    exec .nop s0 = .next { s0 with response := some .ok } := ⟨rfl, rfl⟩
theorem witness_StepConsumesOneStimulusAndKeepsTheConfiguration :
    (queued s0 [.tick]).cfg.wellFormed = true ∧ s0.cfg.wellFormed = true := by decide

/-- Awake: NOP, PWR_UP, PWR_DOWN, ROM_LOW, ROM_HIGH, TICK_MASK, RD_STATUS and the round trip. -/
theorem witness_awake : s0.mode = .run := by decide
theorem witness_NopOnlyReturnsOk : s0.mode = .run := witness_awake
theorem witness_PwrUpTurnsTheHostOn : s0.mode = .run := witness_awake
theorem witness_PwrDownTurnsTheHostOff : s0.mode = .run := witness_awake
theorem witness_RomLowSelectsBankLow : s0.mode = .run ∧ asleep.mode = .sleep := by decide
theorem witness_RomHighSelectsBankHigh : s0.mode = .run ∧ asleep.mode = .sleep := by decide
theorem witness_TickMaskDisablesTicks : s0.mode = .run := witness_awake
theorem witness_RdStatusReturnsTheStatusByte : s0.mode = .run := witness_awake
theorem witness_RomSelectRoundTripEndsHigh : s0.mode = .run := witness_awake
theorem witness_TickUnmaskWithNothingHeldEnablesTicks : s0.mode = .run ∧ s0.tPend = false := by decide
theorem witness_TickUnmaskRunsTheHeldTick : held.mode = .run ∧ held.tPend = true := by decide
theorem witness_ControlPortIsDroppedAsleep :
    Instr.rdStatus.isControlPort = true ∧ asleep.mode = .sleep := by decide
theorem witness_ControlPortOperationsAreIdempotent :
    Instr.romHigh ∈ [Instr.nop, .pwrUp, .pwrDown, .romLow, .romHigh, .tickMask, .rdStatus] ∧
    exec .romHigh s0 = .next { s0 with romSel := .high, response := some .ok } := ⟨by decide, rfl⟩

theorem witness_TickFollowsModeAndMask_asleep : asleep.mode = .sleep := by decide
theorem witness_TickFollowsModeAndMask_masked : held.mode = .run ∧ held.tie = false := by decide
theorem witness_TickFollowsModeAndMask_taken : s0.mode = .run ∧ s0.tie = true := by decide
/-- At the narrowest width whose counters can hold 5. -/
theorem witness_TickFollowsModeAndMask_example :
    let s : State := { s0 with
      cfg := { tc with w := 3, idle := 3, long := 5 }, btnN := false, pressT := 4 }
    s.mode = .run ∧ s.tie = true ∧ s.pwr = .off ∧ s.btnN = false ∧ s.pressT = 4 ∧
      5 ≤ 2 ^ s.cfg.w - 1 ∧ s.cfg.wellFormed = true := by decide
/-- The events on both sides of both thresholds, from the rule: SHORT = 2, LONG = 5. -/
theorem witness_ClassifierFollowsItsTwoThresholds :
    State.btnN { s0 with btnN := false } = false ∧ s0.btnN = true ∧
    (classify { s0 with pressT := 2 }).1 = .none ∧ (classify { s0 with pressT := 3 }).1 = .powerUp ∧
    (classify { s0 with pwr := .on, pressT := 5 }).1 = .none ∧
    (classify { s0 with pwr := .on, pressT := 6 }).1 = .powerDown := by decide
theorem witness_PressedTickCountsThePress_off :
    let s : State := { s0 with btnN := false, pressT := 15 }
    s.mode = .run ∧ s.tie = true ∧ s.btnN = false ∧ s.pwr = .off := by decide
/-- `TOD + 1 = CLK_DIV`. -/
theorem witness_PressedTickCountsThePress_on :
    let s : State := { s0 with btnN := false, pwr := .on, tod := 1 }
    s.mode = .run ∧ s.tie = true ∧ s.btnN = false ∧ s.pwr = .on ∧ s.cfg.wellFormed = true ∧
      s.tod < s.cfg.clkDiv ∧ s.tod + 1 = s.cfg.clkDiv := by decide
/-- `PRESS_T = SHORT + 1`. -/
theorem witness_ReleasedTickWhileOff_powerUp :
    let s : State := { s0 with pressT := 3 }
    s.mode = .run ∧ s.tie = true ∧ s.btnN = true ∧ s.pwr = .off ∧ s.cfg.short < s.pressT ∧
      s.cfg.wellFormed = true ∧ s.tod < s.cfg.clkDiv := by decide
/-- `IDLE_T + 1 = IDLE + 1`. -/
theorem witness_ReleasedTickWhileOff_hibernates :
    let s : State := { s0 with idleT := 3 }
    s.mode = .run ∧ s.tie = true ∧ s.btnN = true ∧ s.pwr = .off ∧ s.pressT ≤ s.cfg.short ∧
      s.cfg.hibernateEn = true ∧ s.cfg.idle < min (s.idleT + 1) (2 ^ s.cfg.w - 1) := by decide
/-- `PRESS_T = SHORT`; `IDLE_T + 1 = IDLE`. -/
theorem witness_ReleasedTickWhileOff_neither :
    let s : State := { s0 with pressT := 2 }
    let u : State := { s0 with idleT := 2 }
    s.mode = .run ∧ s.tie = true ∧ s.btnN = true ∧ s.pwr = .off ∧ s.pressT ≤ s.cfg.short ∧
      min (s.idleT + 1) (2 ^ s.cfg.w - 1) ≤ s.cfg.idle ∧
      u.mode = .run ∧ u.tie = true ∧ u.btnN = true ∧ u.pwr = .off ∧ u.pressT ≤ u.cfg.short ∧
      min (u.idleT + 1) (2 ^ u.cfg.w - 1) ≤ u.cfg.idle := by decide
/-- The hibernate path absent. -/
theorem witness_ReleasedTickWhileOff_absent :
    let s : State := { s0 with cfg := { tc with hibernateEn := false }, idleT := 15 }
    s.mode = .run ∧ s.tie = true ∧ s.btnN = true ∧ s.pwr = .off ∧ s.pressT ≤ s.cfg.short ∧
      s.cfg.hibernateEn = false := by decide
/-- `PRESS_T = LONG`. -/
theorem witness_ReleasedTickWhileOn_none :
    let s : State := { s0 with pwr := .on, pressT := 5 }
    s.mode = .run ∧ s.tie = true ∧ s.btnN = true ∧ s.pwr = .on ∧ s.pressT ≤ s.cfg.long ∧
      s.cfg.wellFormed = true ∧ s.tod < s.cfg.clkDiv := by decide
/-- `PRESS_T = LONG + 1`. -/
theorem witness_ReleasedTickWhileOn_powerDown :
    let s : State := { s0 with pwr := .on, pressT := 6 }
    s.mode = .run ∧ s.tie = true ∧ s.btnN = true ∧ s.pwr = .on ∧ s.cfg.long < s.pressT ∧
      min (s.idleT + 1) (2 ^ s.cfg.w - 1) ≤ s.cfg.idle := by decide
/-- `IDLE = 0` (42_idle_wake.md R151). -/
theorem witness_ReleasedTickWhileOn_hibernates :
    let s : State := { s0 with cfg := { tc with idle := 0 }, pwr := .on, pressT := 6 }
    s.mode = .run ∧ s.tie = true ∧ s.btnN = true ∧ s.pwr = .on ∧ s.cfg.long < s.pressT ∧
      s.cfg.hibernateEn = true ∧ s.cfg.idle < min (s.idleT + 1) (2 ^ s.cfg.w - 1) := by decide

theorem takes_tick : TakesTick .tick s0 := ⟨rfl, .inl ⟨rfl, rfl⟩⟩
theorem takes_held_tick : TakesTick .tickUnmask held := ⟨rfl, .inr ⟨rfl, rfl⟩⟩
theorem witness_TakenTickRunsExactlyOneTimer :
    TakesTick .tick s0 ∧ exec .tick s0 = .next { s0 with idleT := 1 } ∧ s0.btnN = true ∧
    TakesTick .tickUnmask held ∧
    exec .tickUnmask held = .next { s0 with idleT := 1, response := some .ok } :=
  ⟨takes_tick, rfl, rfl, takes_held_tick, rfl⟩
theorem witness_TakenTickRunsExactlyOneTimer_pressed :
    TakesTick .tick { s0 with btnN := false } ∧
    exec .tick { s0 with btnN := false } = .next { s0 with btnN := false, pressT := 1 } :=
  ⟨⟨rfl, .inl ⟨rfl, rfl⟩⟩, rfl⟩
theorem witness_TicksLeaveSelectorButtonAndStoreAlone :
    exec .tick s0 = .next { s0 with idleT := 1 } ∧
    exec .tickUnmask s0 = .next { s0 with response := some .ok } := ⟨rfl, rfl⟩

theorem witness_PinStoresTheLevelAndWakes :
    s0.mode = .run ∧ true = asleep.btnN ∧ asleep.mode = .sleep ∧ false ≠ asleep.btnN := by decide
theorem witness_ResetRunsSetupInEveryMode : s0.storeScript[s0.storeReads]? = some .low := by decide

theorem witness_PowerChangesOnlyAsItsTableSays :
    exec .tick { s0 with pressT := 3 } = .next { s0 with pwr := .on, idleT := 1, tod := 1 } ∧
    s0.pwr = .off ∧ exec .reset { s0 with pwr := .on } = .next { s0 with storeReads := 2 } :=
  ⟨rfl, rfl, rfl⟩
theorem witness_RomSelectionIsWrittenOnlyByItsWriters :
    exec .romHigh s0 = .next { s0 with romSel := .high, response := some .ok } := rfl
theorem witness_ButtonLevelIsWrittenOnlyByPin :
    exec (.pin false) s0 = .next { s0 with btnN := false } ∧
    exec .reset s0 = .next { s0 with storeReads := 2 } ∧ ∀ l, Instr.reset ≠ .pin l :=
  ⟨rfl, rfl, fun _ => nofun⟩
theorem witness_DividerMovesOnlyInTicksThatLeaveTheHostOn :
    exec .tick { s0 with pwr := .on, tod := 1 } =
      .next { s0 with pwr := .on, idleT := 1, clkQ := true } := rfl
theorem witness_SleepIsEnteredAndLeftOnlyAsStated :
    exec .tick { s0 with idleT := 3 } = .next asleep ∧ asleep.mode = .sleep ∧
    exec (.pin false) asleep = .next { s0 with btnN := false, storeReads := 2 } ∧
    exec .reset asleep = .next { s0 with storeReads := 2 } ∧
    exec .tick asleep = .next asleep := ⟨rfl, rfl, rfl, rfl, rfl⟩
theorem witness_WakeEdgeIsAPress :
    asleep.Inv ∧ asleep.mode = .sleep ∧
    exec (.pin false) asleep = .next { s0 with btnN := false, storeReads := 2 } ∧
    State.mode { s0 with btnN := false, storeReads := 2 } = .run := ⟨asleep_inv, rfl, rfl, rfl⟩
theorem witness_PowerEnablePinFollowsPower : s0.pwr = State.pwr { s0 with romSel := .high } := by decide
theorem witness_SelectorAndClockPinsFollowTheState :
    State.pwr { s0 with pwr := .on } = .on ∧ s0.pwr = .off ∧
    exec .tick s0 = .next { s0 with idleT := 1 } ∧ State.pwr { s0 with idleT := 1 } = s0.pwr :=
  ⟨rfl, rfl, rfl, rfl⟩

/-- From OFF with a press of SHORT ticks and of SHORT + 1, and from ON with LONG and LONG + 1. -/
theorem witness_PressOfDTicksIsClassifiedByDAlone (d : Nat) (_ : d ∈ [2, 3, 5, 6]) (p : Power) :
    let s := queued { s0 with pwr := p } ((Pseudo.hold d).expand ++ (Pseudo.ticks 1).expand)
    s.Inv ∧ s.mode = .run ∧ s.tie = true ∧ s.pressT = 0 ∧
      s.stimuli = encodeAll ((Pseudo.hold d).expand ++ (Pseudo.ticks 1).expand) ++ [] :=
  ⟨queued_inv (by cases p <;> constructor <;> decide) _, rfl, rfl, rfl, (List.append_nil _).symm⟩
/-- I1 (one tick from IDLE) and the whole count from 0. -/
theorem witness_IdleTicksHibernateAtTheThreshold (k : Nat) (hk : k ∈ [0, 3]) :
    let s := queued { s0 with idleT := k } (Pseudo.ticks (4 - k)).expand
    s.Inv ∧ s.mode = .run ∧ s.tie = true ∧ s.btnN = true ∧ s.pwr = .off ∧
      s.cfg.hibernateEn = true ∧ s.pressT ≤ s.cfg.short ∧ s.idleT ≤ s.cfg.idle ∧
      s.idleT + (4 - k) = s.cfg.idle + 1 ∧
      s.stimuli = encodeAll (Pseudo.ticks (4 - k)).expand ++ [] := by
  have hk : k = 0 ∨ k = 3 := by simpa using hk
  rcases hk with rfl | rfl <;>
    exact ⟨queued_inv (by constructor <;> decide) _, by decide, by decide, by decide, by decide,
      by decide, by decide, by decide, by decide, by decide⟩
/-- The held phase one tick from the toggle; released, and pressed. -/
theorem witness_ClockTogglesEveryClkDivTicks (b : Bool) :
    let s := queued { s0 with pwr := .on, tod := 1, btnN := b } (Pseudo.ticks 5).expand
    s.Inv ∧ s.mode = .run ∧ s.tie = true ∧ s.pwr = .on ∧
      (s.btnN = false ∨ s.pressT ≤ s.cfg.long) ∧
      s.stimuli = encodeAll (Pseudo.ticks 5).expand ++ [] :=
  ⟨queued_inv (by cases b <;> constructor <;> decide) _, rfl, rfl, rfl,
    .inr (by cases b <;> decide), (List.append_nil _).symm⟩
theorem witness_MaskBracketRunsExactlyOneTick :
    let is := Instr.tickMask :: ((Pseudo.ticks 1).expand ++ [Instr.tickUnmask])
    (queued s0 is).Inv ∧ (queued s0 is).mode = .run ∧ (queued s0 is).tie = true ∧
      (queued s0 is).stimuli = encodeAll is ++ [] :=
  ⟨queued_inv s0_inv _, rfl, rfl, rfl⟩
/-- `IDLE_T = IDLE + 1`, the host ON. -/
theorem witness_PwrDownAfterLongIdleHibernatesAtTheNextTick :
    let s : State := { s0 with pwr := .on, idleT := 4 }
    s.Inv ∧ s.mode = .run ∧ s.tie = true ∧ s.btnN = true ∧ s.cfg.hibernateEn = true ∧
      s.pressT ≤ s.cfg.short ∧ s.cfg.idle < s.idleT :=
  ⟨by constructor <;> decide, by decide⟩
theorem witness_SerialNamesMapToTheirStimuli :
    capitals "PowerUp".toList = "POWERUP".toList ∧
    capitals "powerdown".toList = "POWERDOWN".toList ∧
    capitals "roml".toList = "ROML".toList ∧ capitals "RomLow".toList = "ROMLOW".toList ∧
    capitals "romh".toList = "ROMH".toList ∧ capitals "ROMhigh".toList = "ROMHIGH".toList ∧
    capitals "help".toList ∉ ["POWERUP".toList, "POWERDOWN".toList, "ROML".toList, "ROMLOW".toList,
      "ROMH".toList, "ROMHIGH".toList] := by decide

end Sys2Proof.Machine.Tests
end

section
/-! PROOFS. The serial command names (spec/30_encoding.md R84): the stimulus of a name depends on its
capitals only, and a name has one exactly when its capitals stand in the table. -/

namespace Sys2Proof.Machine

theorem serialStimulus_of_capitals_eq {name key : List Char} (h : capitals name = key) :
    serialStimulus name = serialNames.lookup key := by
  rw [serialStimulus, h]

theorem serialStimulus_eq_none_iff {name : List Char} :
    serialStimulus name = none ↔ capitals name ∉ serialNames.map Prod.fst := by
  simp only [serialStimulus, List.lookup_eq_none_iff, bne_iff_ne, List.mem_map, not_exists, not_and]
  exact forall₂_congr fun _ _ => ne_comm

/-- Settles O46: a name whose capitals are a key of the table gets that key's entry, and a name whose
capitals are no key gets none. -/
theorem serialNamesMapToTheirStimuli : Obligations.SerialNamesMapToTheirStimuli := by
  unfold Obligations.SerialNamesMapToTheirStimuli
  intro name
  refine ⟨serialStimulus_of_capitals_eq, serialStimulus_of_capitals_eq, ?romLow, ?romHigh,
    serialStimulus_eq_none_iff.mpr⟩
  case romLow => exact (·.elim serialStimulus_of_capitals_eq serialStimulus_of_capitals_eq)
  case romHigh => exact (·.elim serialStimulus_of_capitals_eq serialStimulus_of_capitals_eq)

end Sys2Proof.Machine
end

section
/-! PROOFS. The classifier (spec/40_classifier.md R102): when a released sample emits each event. -/

namespace Sys2Proof.Machine

theorem releaseEvent_eq_powerDown_iff (s : State) :
    releaseEvent s = .powerDown ↔ s.pwr = .on ∧ s.cfg.long < s.pressT := by
  obtain ⟨he, hp, ht⟩ | ⟨he, hp, ht⟩ | ⟨he, hon, hoff⟩ := releaseEvent_cases s
  · simp [he, hp, ht]
  · simp [he, hp]
  · simpa [he] using hon

theorem releaseEvent_eq_powerUp_iff (s : State) :
    releaseEvent s = .powerUp ↔ s.pwr = .off ∧ s.cfg.short < s.pressT := by
  obtain ⟨he, hp, ht⟩ | ⟨he, hp, ht⟩ | ⟨he, hon, hoff⟩ := releaseEvent_cases s
  · simp [he, hp]
  · simp [he, hp, ht]
  · simpa [he] using hoff

/-- Settles O25: a pressed sample emits nothing; a released one emits the event of the state before
its timers are reset. -/
theorem classifierFollowsItsTwoThresholds : Obligations.ClassifierFollowsItsTwoThresholds := by
  unfold Obligations.ClassifierFollowsItsTwoThresholds
  refine fun s => ⟨classify_pressed, fun hreleased => ?_⟩
  rw [classify_released hreleased]
  exact ⟨rfl, releaseEvent_eq_powerDown_iff s, releaseEvent_eq_powerUp_iff s⟩

end Sys2Proof.Machine
end

section
/-! PROOFS. The stimulus TICK (spec/40_classifier.md R100): ignored asleep (R104), held while masked
(R105), and a taken tick that samples a press. -/

namespace Sys2Proof.Machine

theorem exec_tick_asleep {s : State} (hm : s.mode = .sleep) :
    exec .tick s = .next (s.respond none) := by
  simp [exec, execTick, presentTick, hm]

theorem exec_tick_masked {s : State} (hm : s.mode = .run) (ht : s.tie = false) :
    exec .tick s = .next (({ s with tPend := true } : State).respond none) := by
  simp [exec, execTick, presentTick, hm, ht]

theorem satInc_of_lt {c : Config} {x : Nat} (h : x < c.counterMax) : satInc c x = x + 1 := if_pos h

/-- No idle threshold is below a timer at zero (42_idle_wake.md R150). -/
theorem idleCheck_of_idleT_eq_zero {s : State} (h : s.idleT = 0) : idleCheck s = s := by
  obtain ⟨-, -, -, hbelow⟩ | ⟨hkept, -⟩ := idleCheck_cases s
  · omega
  · exact hkept

/-- A pressed tick has no event and no hibernation: it counts the press and steps the divider. -/
theorem tickHandler_pressed {s : State} (h : s.btnN = false) :
    tickHandler s = clockStep { s with pressT := satInc s.cfg s.pressT, idleT := 0 } := by
  rw [tickHandler, classify_pressed h, applyEvent, idleCheck_of_idleT_eq_zero rfl]

theorem tickHandler_pressed_off {s : State} (h : s.btnN = false) (hp : s.pwr = .off) :
    tickHandler s = { s with pressT := satInc s.cfg s.pressT, idleT := 0 } :=
  (tickHandler_pressed h).trans (clockStep_off hp)

/-- Settles O24: one clause per branch of TICK; in the rule's example the taken tick is a pressed one
while OFF, and a counter that can hold 5 does not saturate at 4. -/
theorem tickFollowsModeAndMask : Obligations.TickFollowsModeAndMask := by
  unfold Obligations.TickFollowsModeAndMask
  refine ⟨rfl, fun s => ⟨exec_tick_asleep, exec_tick_masked, exec_tick_taken, ?_⟩⟩
  intro hm ht hp hpressed h4 hwide
  have hcount : satInc s.cfg s.pressT = 5 := by
    rw [h4]; exact satInc_of_lt hwide
  rw [exec_tick_taken hm ht, tickHandler_pressed_off hpressed hp, hcount]
  rfl

end Sys2Proof.Machine
end

section
/-! PROOFS. The GPIO driver (spec/44_gpio_control.md R210): each level pin as a function of the fields
it reads. -/

namespace Sys2Proof.Machine

@[simp] theorem State.pins_pwrEnN (s : State) : s.pins.pwrEnN = !decide (s.pwr = .on) := rfl

@[simp] theorem State.pins_romSel (s : State) :
    s.pins.romSel = decide (s.pwr = .on ∧ s.romSel = .high) :=
  (Bool.decide_and ..).symm

/-- Settles O39: the pin is the negation of PWR = ON, so it reads no other field. -/
theorem powerEnablePinFollowsPower : Obligations.PowerEnablePinFollowsPower := by
  unfold Obligations.PowerEnablePinFollowsPower
  refine ⟨fun s => ?asserted, fun s => ⟨?up, ?down⟩, fun s t hpwr => ?onlyPwr⟩
  case asserted => simp
  case up => simp
  case down => simp
  case onlyPwr => rw [State.pins_pwrEnN, State.pins_pwrEnN, hpwr]

end Sys2Proof.Machine
end

section
/-! PROOFS. The ROM-select operations (spec/44_gpio_control.md R220, R221): dropped asleep as every
control-port operation is (R201), one write of ROMSEL awake. -/

namespace Sys2Proof.Machine

theorem exec_controlPort_asleep {i : Instr} {s : State} (hi : i.isControlPort = true)
    (hm : s.mode = .sleep) : exec i s = .next (s.respond (some .dropped)) := by
  cases i
  case tick | pin | reset => cases hi
  all_goals exact congrArg Host.Outcome.next (controlPort_sleep hm ..)

theorem exec_romLow_awake {s : State} (hm : s.mode = .run) :
    exec .romLow s = .next { s with romSel := .low, response := some .ok } :=
  congrArg Host.Outcome.next (controlPort_run hm ..)

theorem exec_romHigh_awake {s : State} (hm : s.mode = .run) :
    exec .romHigh s = .next { s with romSel := .high, response := some .ok } :=
  congrArg Host.Outcome.next (controlPort_run hm ..)

/-- Settles O15: with bank LOW selected the pin is 0 whatever PWR is. -/
theorem romLowSelectsBankLow : Obligations.RomLowSelectsBankLow := by
  unfold Obligations.RomLowSelectsBankLow
  refine ⟨rfl, fun s => ⟨exec_controlPort_asleep rfl, fun hm => ?awake⟩⟩
  refine ⟨_, exec_romLow_awake hm, rfl, ?pin⟩
  case pin => simp

/-- Settles O16: with bank HIGH selected the pin shows PWR, which `PowerUp()` sets to ON. -/
theorem romHighSelectsBankHigh : Obligations.RomHighSelectsBankHigh := by
  unfold Obligations.RomHighSelectsBankHigh
  refine ⟨rfl, fun s => ⟨exec_controlPort_asleep rfl, fun hm => ?awake⟩⟩
  refine ⟨_, exec_romHigh_awake hm, rfl, ?pin, ?pinAfterPowerUp⟩
  case pin => simp
  case pinAfterPowerUp => simp

end Sys2Proof.Machine
end

section
/-! PROOFS. No stimulus stops the block (spec/60_exceptions.md R240): each one has a next state. -/

namespace Sys2Proof.Machine

/-- The three stimuli outside the control port have a path each (TICK, PIN, RESET); the eight
operations share `controlPort`, which answers in both modes. -/
theorem exec_exists_next (i : Instr) (s : State) : ∃ t, exec i s = .next t := by
  cases i
  case tick => exact ⟨(presentTick s).respond none, rfl⟩
  case pin level => exact ⟨(presentPin level s).respond none, rfl⟩
  case reset => exact ⟨(setup s).respond none, rfl⟩
  all_goals exact ⟨controlPort _ _ s, rfl⟩

/-- Settles O10: the next state of each stimulus, and a type of faults with no constructor. -/
theorem everyStimulusHasAnEffectInEveryState :
    Obligations.EveryStimulusHasAnEffectInEveryState := by
  unfold Obligations.EveryStimulusHasAnEffectInEveryState
  exact ⟨exec_exists_next, nofun⟩

end Sys2Proof.Machine
end

section
/-! PROOFS. The encoding (spec/30_encoding.md R72 to R79): the formats cut a word into fields, and
the fields the decoder reads put the word together again. -/

namespace Sys2Proof

theorem decode_encode (i : Instr) : decode (encode i) = .ok i := by
  cases i
  case pin level => exact Laws.RoundTrip.pin level rfl
  all_goals rfl

/-- The fields of formats TCK and RST. -/
theorem eq_cls_append_lowSix (w : Byte) : w = w.extractLsb' 6 2 ++ w.extractLsb' 0 6 := by
  rw [BitVec.extractLsb'_append_extractLsb'_eq_extractLsb' (by rfl), BitVec.extractLsb'_eq_self]

/-- The fields of format CTL. -/
theorem eq_cls_append_ctlFields (w : Byte) :
    w = w.extractLsb' 6 2 ++ (w.extractLsb' 4 2 ++ w.extractLsb' 0 4) := by
  rw [BitVec.extractLsb'_append_extractLsb'_eq_extractLsb' (by rfl)]
  exact eq_cls_append_lowSix w

/-- The fields of format PIN. -/
theorem eq_cls_append_pinFields (w : Byte) :
    w = w.extractLsb' 6 2 ++ (w.extractLsb' 1 5 ++ w.extractLsb' 0 1) := by
  rw [BitVec.extractLsb'_append_extractLsb'_eq_extractLsb' (by rfl)]
  exact eq_cls_append_lowSix w

theorem eq_ofNat_of_toNat_eq {n k : Nat} {x : BitVec n} (h : x.toNat = k) :
    x = BitVec.ofNat n k := by
  rw [← h, BitVec.ofNat_toNat, BitVec.setWidth_eq]

theorem fieldLevel_spec (w : Byte) : w.extractLsb' 0 1 = BitVec.ofBool (fieldLevel w) := by
  ext i hi
  obtain rfl : i = 0 := by omega
  simp [fieldLevel]

theorem eq_encodeCtl_of_fields {w : Byte} (hcls : fieldCls w = 0) (hzero : fieldCtlReserved w = 0) :
    w = encodeCtl (BitVec.ofNat 4 (fieldOp w)) := by
  conv_lhs => rw [eq_cls_append_ctlFields w]
  rw [eq_ofNat_of_toNat_eq hcls, eq_ofNat_of_toNat_eq hzero, fieldOp, BitVec.ofNat_toNat,
    BitVec.setWidth_eq]
  rfl

theorem eq_encodeTck_of_fields {w : Byte} (hcls : fieldCls w = 1) (hzero : fieldLowSix w = 0) :
    w = encodeTck := by
  rw [eq_cls_append_lowSix w, eq_ofNat_of_toNat_eq hcls, eq_ofNat_of_toNat_eq hzero]
  rfl

theorem eq_encodePin_of_fields {w : Byte} (hcls : fieldCls w = 2) (hzero : fieldPinZero w = 0) :
    w = encodePin (fieldLevel w) := by
  conv_lhs => rw [eq_cls_append_pinFields w]
  rw [eq_ofNat_of_toNat_eq hcls, eq_ofNat_of_toNat_eq hzero, fieldLevel_spec]
  rfl

theorem eq_encodeRst_of_fields {w : Byte} (hcls : fieldCls w = 3) (hzero : fieldLowSix w = 0) :
    w = encodeRst := by
  rw [eq_cls_append_lowSix w, eq_ofNat_of_toNat_eq hcls, eq_ofNat_of_toNat_eq hzero]
  rfl

theorem encode_of_decodeOp {op : Nat} {i : Instr} (h : decodeOp op = .ok i) :
    encode i = encodeCtl (BitVec.ofNat 4 op) := by
  unfold decodeOp at h
  split at h <;> cases h <;> rfl

/-- The decoder reads a stimulus from that stimulus's word only: one case per class. -/
theorem eq_encode_of_decode {w : Byte} {i : Instr} (h : decode w = .ok i) : w = encode i := by
  have hcls : fieldCls w < 4 := (w.extractLsb' 6 2).isLt
  unfold decode at h
  split at h
  case h_1 hctl =>
    split at h
    · next hzero => rw [encode_of_decodeOp h]; exact eq_encodeCtl_of_fields hctl hzero
    · cases h
  case h_2 htck =>
    split at h
    · next hzero => cases h; exact eq_encodeTck_of_fields htck hzero
    · cases h
  case h_3 hpin =>
    split at h
    · next hzero => cases h; exact eq_encodePin_of_fields hpin hzero
    · cases h
  case h_4 _ hctl htck hpin =>
    split at h
    · next hzero =>
      have hother : fieldCls w ≠ 0 ∧ fieldCls w ≠ 1 ∧ fieldCls w ≠ 2 := ⟨hctl, htck, hpin⟩
      cases h; exact eq_encodeRst_of_fields (by omega) hzero
    · cases h

/-- A word of no stimulus is reserved (R79). -/
theorem exists_decode_eq_error {w : Byte} (h : ∀ i, encode i ≠ w) : ∃ e, decode w = .error e := by
  cases hd : decode w with
  | error e => exact ⟨e, rfl⟩
  | ok i => exact absurd (eq_encode_of_decode hd).symm (h i)

end Sys2Proof

namespace Sys2Proof.Machine

/-- Settles O4: the decoder inverts the encoder from both sides. -/
theorem decodeReadsExactlyTheEncodedWords : Obligations.DecodeReadsExactlyTheEncodedWords := by
  unfold Obligations.DecodeReadsExactlyTheEncodedWords
  intro w i
  refine ⟨eq_encode_of_decode, ?_⟩
  rintro rfl
  exact decode_encode i

/-- Settles O5: each stimulus word is the encoder's, and each reserved one breaks its format in one
bit. -/
theorem wordsOfEveryFormatDecode : Obligations.WordsOfEveryFormatDecode := by
  unfold Obligations.WordsOfEveryFormatDecode
  exact ⟨decode_encode .nop, decode_encode .pwrDown, decode_encode .rdStatus, decode_encode .tick,
    decode_encode (.pin false), decode_encode (.pin true), decode_encode .reset,
    rfl, rfl, rfl, rfl, rfl⟩

theorem encodeAll_append (is js : List Instr) :
    encodeAll (is ++ js) = encodeAll is ++ encodeAll js := List.map_append ..

theorem encodeAll_ticks (n : Nat) :
    encodeAll (Pseudo.ticks n).expand = List.replicate n (encode .tick) := List.map_replicate ..

/-- HOLD in three parts (R83): the press, the ticks that see it, the release and its tick. -/
theorem encodeAll_hold (n : Nat) :
    encodeAll (Pseudo.hold n).expand =
      encode (.pin false) ::
        (encodeAll (Pseudo.ticks n).expand ++ [encode (.pin true), encode .tick]) :=
  congrArg (encode (.pin false) :: ·) (encodeAll_append ..)

/-- Settles O47: a pseudo-stimulus's words are the words of its expansion, part by part. -/
theorem pseudoStimuliExpandToTheirWords : Obligations.PseudoStimuliExpandToTheirWords := by
  unfold Obligations.PseudoStimuliExpandToTheirWords
  refine ⟨rfl, rfl, encodeAll_ticks, fun n => ?hold⟩
  case hold => rw [encodeAll_hold, encodeAll_ticks]; rfl

end Sys2Proof.Machine
end

section
/-! PROOFS. The output pins and the STATUS byte (spec/44_gpio_control.md R210 to R214, R225) as
functions of the fields they read. -/

namespace Sys2Proof.Machine

theorem State.pins_of_on {s : State} (h : s.pwr = .on) :
    s.pins = { pwrEnN := false, romSel := decide (s.romSel = .high),
               clkOut := clockLevel s.clkQ } := by
  simp [State.pins, h, beq_eq_decide]

theorem State.pins_of_off {s : State} (h : s.pwr = .off) :
    s.pins = { pwrEnN := true, romSel := false, clkOut := .z } := by
  simp [State.pins, h]

/-- Settles O40: each pin is read off the equation of the pins, and reads no other field. -/
theorem selectorAndClockPinsFollowTheState : Obligations.SelectorAndClockPinsFollowTheState := by
  unfold Obligations.SelectorAndClockPinsFollowTheState
  refine ⟨fun s => ?selector, fun s => ⟨fun h => ?clockOn, fun h => ?clockOff⟩,
    fun i s t _ hpwr => ⟨fun hrom => ?keepsSelector, fun hclk => ?keepsClock⟩⟩
  case selector => simp
  case clockOn => rw [State.pins_of_on h]
  case clockOff => rw [State.pins_of_off h]
  case keepsSelector => rw [State.pins_romSel, State.pins_romSel, hpwr, hrom]
  case keepsClock => rw [State.pins, State.pins, hpwr, hclk]

/-- The bits of a byte written as eight one-bit fields, the highest first. -/
theorem getLsbD_eight_fields (b₇ b₆ b₅ b₄ b₃ b₂ b₁ b₀ : Bool) :
    let w : Byte := BitVec.ofBool b₇ ++ (BitVec.ofBool b₆ ++ (BitVec.ofBool b₅ ++
      (BitVec.ofBool b₄ ++ (BitVec.ofBool b₃ ++ (BitVec.ofBool b₂ ++ (BitVec.ofBool b₁ ++
        BitVec.ofBool b₀))))))
    w.getLsbD 0 = b₀ ∧ w.getLsbD 1 = b₁ ∧ w.getLsbD 2 = b₂ ∧ w.getLsbD 3 = b₃ ∧
      w.getLsbD 4 = b₄ ∧ w.getLsbD 5 = b₅ ∧ w.getLsbD 6 = b₆ ∧ w.getLsbD 7 = b₇ := by
  simp only [BitVec.getLsbD_append, BitVec.getLsbD_ofBool]
  simp

end Sys2Proof.Machine
end

section
/-! PROOFS. The control port (spec/44_gpio_control.md R200): what each operation does awake. -/

namespace Sys2Proof.Machine

theorem exec_nop_awake {s : State} (hm : s.mode = .run) :
    exec .nop s = .next (s.respond (some .ok)) :=
  congrArg Host.Outcome.next (controlPort_run hm ..)

theorem exec_pwrUp_awake {s : State} (hm : s.mode = .run) :
    exec .pwrUp s = .next ((powerUp s).respond (some .ok)) :=
  congrArg Host.Outcome.next (controlPort_run hm ..)

theorem exec_pwrDown_awake {s : State} (hm : s.mode = .run) :
    exec .pwrDown s = .next ((powerDown s).respond (some .ok)) :=
  congrArg Host.Outcome.next (controlPort_run hm ..)

theorem exec_tickMask_awake {s : State} (hm : s.mode = .run) :
    exec .tickMask s = .next { s with tie := false, response := some .ok } :=
  congrArg Host.Outcome.next (controlPort_run hm ..)

theorem exec_rdStatus_awake {s : State} (hm : s.mode = .run) :
    exec .rdStatus s = .next (s.respond (some (.okStatus s.statusByte))) :=
  congrArg Host.Outcome.next (controlPort_run hm ..)

/-- With nothing held, the unmask only enables ticks (R224). -/
theorem exec_unmask_idle {s : State} (hm : s.mode = .run) (hp : s.tPend = false) :
    exec .tickUnmask s = .next { s with tie := true, response := some .ok } := by
  simp [exec, execTickUnmask, controlPort_run hm, unmaskTicks, hp, State.respond]

/-- Settles O12: NOP is a control-port operation with no effect. -/
theorem nopOnlyReturnsOk : Obligations.NopOnlyReturnsOk := by
  unfold Obligations.NopOnlyReturnsOk
  exact fun s => exec_nop_awake

/-- Settles O13: the pins are those of a state with PWR = ON. -/
theorem pwrUpTurnsTheHostOn : Obligations.PwrUpTurnsTheHostOn := by
  unfold Obligations.PwrUpTurnsTheHostOn
  exact fun s hm => ⟨_, exec_pwrUp_awake hm, rfl, State.pins_of_on rfl⟩

/-- Settles O14: the pins are those of a state with PWR = OFF. -/
theorem pwrDownTurnsTheHostOff : Obligations.PwrDownTurnsTheHostOff := by
  unfold Obligations.PwrDownTurnsTheHostOff
  exact fun s hm => ⟨_, exec_pwrDown_awake hm, rfl, State.pins_of_off rfl⟩

/-- Settles O17: the effect of the mask is its one write. -/
theorem tickMaskDisablesTicks : Obligations.TickMaskDisablesTicks := by
  unfold Obligations.TickMaskDisablesTicks
  exact fun s => exec_tickMask_awake

/-- Settles O18: with TPEND = 0 the unmask takes no tick. -/
theorem tickUnmaskWithNothingHeldEnablesTicks :
    Obligations.TickUnmaskWithNothingHeldEnablesTicks := by
  unfold Obligations.TickUnmaskWithNothingHeldEnablesTicks
  exact fun s => exec_unmask_idle

/-- Settles O19: the TICK and the unmask run the same handler on the same state; only the result
differs. -/
theorem tickUnmaskRunsTheHeldTick : Obligations.TickUnmaskRunsTheHeldTick := by
  unfold Obligations.TickUnmaskRunsTheHeldTick
  exact fun s hm hp => ⟨_, exec_tick_taken hm rfl, exec_unmask_held hm hp⟩

/-- Settles O20: the STATUS byte is eight one-bit fields. -/
theorem rdStatusReturnsTheStatusByte : Obligations.RdStatusReturnsTheStatusByte := by
  unfold Obligations.RdStatusReturnsTheStatusByte
  intro s hm
  refine ⟨s.statusByte, exec_rdStatus_awake hm, ?_⟩
  obtain ⟨h0, h1, h2, h3, h4, h5, h6, h7⟩ :=
    getLsbD_eight_fields s.pins.romSel s.pins.pwrEnN s.btnN s.clkQ s.tPend s.tie
      (romBankBit s.romSel) s.pwr.bit
  have hpwrEnN : s.pins.pwrEnN = decide (s.pwr = .off) := by cases h : s.pwr <;> simp [h]
  exact ⟨h0.trans (beq_eq_decide ..), h1.trans (beq_eq_decide ..), h2, h3, h4, h5,
    h6.trans hpwrEnN, h7.trans (State.pins_romSel s)⟩

/-- Settles O21: all eight operations have the control port's form. -/
theorem controlPortIsDroppedAsleep : Obligations.ControlPortIsDroppedAsleep := by
  unfold Obligations.ControlPortIsDroppedAsleep
  exact fun i s => exec_controlPort_asleep

/-- An operation whose effect and result do not see that it has just run changes nothing when
repeated: asleep it is dropped twice, awake it writes the same fields and result. -/
theorem controlPort_idempotent {effect : State → State} {result : State → Response}
    (hmode : ∀ s, (effect s).mode = s.mode)
    (heffect : ∀ r s, (effect ((effect s).respond r)).respond r = (effect s).respond r)
    (hresult : ∀ r s, result ((effect s).respond r) = result s) (s : State) :
    controlPort effect result (controlPort effect result s) = controlPort effect result s := by
  obtain hm | hm := mode_cases s
  · have hawake : ((effect s).respond (some (result s))).mode = .run := (hmode s).trans hm
    rw [controlPort_run hm, controlPort_run hawake, hresult, heffect]
  · have hasleep : (s.respond (some .dropped)).mode = .sleep := hm
    rw [controlPort_sleep hm, controlPort_sleep hasleep]
    rfl

/-- Settles O22: no operation of the list reads what it writes. -/
theorem controlPortOperationsAreIdempotent : Obligations.ControlPortOperationsAreIdempotent := by
  unfold Obligations.ControlPortOperationsAreIdempotent
  intro i s t hi e
  simp only [List.mem_cons, List.not_mem_nil, or_false] at hi
  rcases hi with rfl | rfl | rfl | rfl | rfl | rfl | rfl
  all_goals
    cases e
    refine congrArg Host.Outcome.next (controlPort_idempotent ?_ ?_ ?_ s) <;> intros <;> rfl

/-- Settles O23: each operation keeps the block awake, so the next one is taken. -/
theorem romSelectRoundTripEndsHigh : Obligations.RomSelectRoundTripEndsHigh := by
  unfold Obligations.RomSelectRoundTripEndsHigh
  intro s hm
  exact ⟨_, _, exec_romHigh_awake hm, rfl, exec_romLow_awake hm, rfl, rfl, exec_romHigh_awake hm⟩

end Sys2Proof.Machine
end

section
/-! PROOFS. The next state of a taken tick (spec/40_classifier.md R101): the event of the sample,
then the idle monitor and the divider. -/

namespace Sys2Proof.Machine

/-- `sat_inc` as the statements write it out (R103). -/
theorem min_succ_eq_satInc (c : Config) (x : Nat) : min (x + 1) (2 ^ c.w - 1) = satInc c x :=
  (satInc_eq_min c x).symm

theorem idleCheck_of_on {s : State} (h : s.pwr = .on) : idleCheck s = s := by
  obtain ⟨-, -, hoff, -⟩ | ⟨hkept, -⟩ := idleCheck_cases s
  · rw [h] at hoff; cases hoff
  · exact hkept

theorem idleCheck_of_exceeded {s : State} (hen : s.cfg.hibernateEn = true) (hoff : s.pwr = .off)
    (h : s.cfg.idle < s.idleT) : idleCheck s = hibernate s := by
  obtain ⟨hslept, -⟩ | ⟨-, hnot⟩ := idleCheck_cases s
  · exact hslept
  · exact absurd ⟨hen, hoff, h⟩ hnot

theorem idleCheck_of_not_exceeded {s : State}
    (h : s.cfg.hibernateEn = false ∨ s.idleT ≤ s.cfg.idle) : idleCheck s = s := by
  obtain ⟨-, hen, -, hexc⟩ | ⟨hkept, -⟩ := idleCheck_cases s
  · obtain hno | hle := h
    · rw [hno] at hen; cases hen
    · omega
  · exact hkept

/-- A host that is ON does not hibernate, and its divider steps. -/
theorem clockStep_idleCheck_on {s : State} (h : s.pwr = .on) (hc : s.cfg.wellFormed = true)
    (ht : s.tod < s.cfg.clkDiv) :
    clockStep (idleCheck s) = { s with
      tod := if s.tod + 1 = s.cfg.clkDiv then 0 else s.tod + 1
      clkQ := if s.tod + 1 = s.cfg.clkDiv then !s.clkQ else s.clkQ } := by
  rw [idleCheck_of_on h, clockStep_on h hc ht]

theorem clockStep_idleCheck_exceeded {s : State} (hoff : s.pwr = .off)
    (hen : s.cfg.hibernateEn = true) (h : s.cfg.idle < s.idleT) :
    clockStep (idleCheck s) = hibernate s := by
  rw [idleCheck_of_exceeded hen hoff h]; exact clockStep_off hoff

theorem clockStep_idleCheck_not_exceeded {s : State} (hoff : s.pwr = .off)
    (h : s.cfg.hibernateEn = false ∨ s.idleT ≤ s.cfg.idle) : clockStep (idleCheck s) = s := by
  rw [idleCheck_of_not_exceeded h, clockStep_off hoff]

/-- The state a released sample leaves to the event (R102). -/
def countIdle (s : State) : State := { s with pressT := 0, idleT := satInc s.cfg s.idleT }

theorem tickHandler_released {s : State} (h : s.btnN = true) :
    tickHandler s = clockStep (idleCheck (applyEvent (releaseEvent s) (countIdle s))) := by
  rw [tickHandler, classify_released h]; rfl

theorem tickHandler_powerUp {s : State} (h : s.btnN = true) (hoff : s.pwr = .off)
    (ht : s.cfg.short < s.pressT) :
    tickHandler s = clockStep (idleCheck (powerUp (countIdle s))) := by
  rw [tickHandler_released h, (releaseEvent_eq_powerUp_iff s).2 ⟨hoff, ht⟩, applyEvent]

theorem tickHandler_powerDown {s : State} (h : s.btnN = true) (hon : s.pwr = .on)
    (ht : s.cfg.long < s.pressT) :
    tickHandler s = clockStep (idleCheck (powerDown (countIdle s))) := by
  rw [tickHandler_released h, (releaseEvent_eq_powerDown_iff s).2 ⟨hon, ht⟩, applyEvent]

theorem tickHandler_noEvent {s : State} (h : s.btnN = true)
    (hon : s.pwr = .on → s.pressT ≤ s.cfg.long) (hoff : s.pwr = .off → s.pressT ≤ s.cfg.short) :
    tickHandler s = clockStep (idleCheck (countIdle s)) := by
  have hnone : releaseEvent s = .none := by
    obtain ⟨-, hp, ht⟩ | ⟨-, hp, ht⟩ | ⟨he, -, -⟩ := releaseEvent_cases s
    · exact absurd (hon hp) (by omega)
    · exact absurd (hoff hp) (by omega)
    · exact he
  rw [tickHandler_released h, hnone, applyEvent]

theorem tickHandler_noEvent_off {s : State} (h : s.btnN = true) (hoff : s.pwr = .off)
    (ht : s.pressT ≤ s.cfg.short) : tickHandler s = clockStep (idleCheck (countIdle s)) :=
  tickHandler_noEvent h (fun hon => by rw [hoff] at hon; cases hon) (fun _ => ht)

theorem tickHandler_noEvent_on {s : State} (h : s.btnN = true) (hon : s.pwr = .on)
    (ht : s.pressT ≤ s.cfg.long) : tickHandler s = clockStep (idleCheck (countIdle s)) :=
  tickHandler_noEvent h (fun _ => ht) (fun hoff => by rw [hon] at hoff; cases hoff)

/-- Settles O26: no event and no hibernation on a press, so PWR alone decides whether the divider
steps. -/
theorem pressedTickCountsThePress : Obligations.PressedTickCountsThePress := by
  unfold Obligations.PressedTickCountsThePress
  intro s hm ht hb
  rw [exec_tick_taken hm ht]
  simp only [min_succ_eq_satInc]
  refine ⟨fun hoff => ?off, fun hon hc htod => ?on⟩
  case off => rw [tickHandler_pressed_off hb hoff]; rfl
  case on => rw [(tickHandler_pressed hb).trans (clockStep_on hon hc htod)]; rfl

/-- Settles O27: the event and the idle threshold choose among three next states. -/
theorem releasedTickWhileOff : Obligations.ReleasedTickWhileOff := by
  unfold Obligations.ReleasedTickWhileOff
  intro s hm ht hb hoff
  rw [exec_tick_taken hm ht]
  simp only [min_succ_eq_satInc]
  refine ⟨fun hp hc htod => ?powersUp, fun hp hen hidle => ?hibernates, fun hp hstay => ?neither⟩
  case powersUp =>
    rw [(tickHandler_powerUp hb hoff hp).trans (clockStep_idleCheck_on rfl hc htod)]
    rfl
  case hibernates =>
    rw [(tickHandler_noEvent_off hb hoff hp).trans (clockStep_idleCheck_exceeded hoff hen hidle)]
    rfl
  case neither =>
    rw [(tickHandler_noEvent_off hb hoff hp).trans (clockStep_idleCheck_not_exceeded hoff hstay)]
    rfl

/-- Settles O28: as for OFF, with the power-down's state before the idle monitor. -/
theorem releasedTickWhileOn : Obligations.ReleasedTickWhileOn := by
  unfold Obligations.ReleasedTickWhileOn
  intro s hm ht hb hon
  rw [exec_tick_taken hm ht]
  simp only [min_succ_eq_satInc]
  refine ⟨fun hp hc htod => ?staysOn, fun hp hstay => ?powersDown, fun hp hen hidle => ?hibernates⟩
  case staysOn =>
    rw [(tickHandler_noEvent_on hb hon hp).trans (clockStep_idleCheck_on hon hc htod)]
    rfl
  case powersDown =>
    rw [(tickHandler_powerDown hb hon hp).trans (clockStep_idleCheck_not_exceeded rfl hstay)]
    rfl
  case hibernates =>
    rw [(tickHandler_powerDown hb hon hp).trans (clockStep_idleCheck_exceeded rfl hen hidle)]
    rfl

end Sys2Proof.Machine
end

section
/-! PROOFS. What a stimulus can do to the block, as one relation: every whole-machine rule is a case
analysis of it. -/

namespace Sys2Proof.Machine

theorem exec_pin_awake {l : Bool} {s : State} (hm : s.mode = .run) :
    exec (.pin l) s = .next { s with btnN := l, response := none } := by
  simp [exec, execPin, presentPin, hm, State.respond]

theorem exec_pin_noEdge (s : State) : exec (.pin s.btnN) s = .next (s.respond none) := by
  simp [exec, execPin, presentPin, State.pinEdge]

theorem exec_pin_wakes {l : Bool} {s : State} (hm : s.mode = .sleep) (hl : l ≠ s.btnN) :
    exec (.pin l) s = .next ((setup { s with btnN := l }).respond none) := by
  simp [exec, execPin, presentPin, State.pinEdge, hm, hl]

/-- `Effect s i t`: from `s` the stimulus `i` leads to `t`, one constructor per way of acting. -/
inductive Effect (s : State) : Instr → State → Prop
  /-- A taken tick: `held` is what the handler finds in TPEND. -/
  | takenTick {i : Instr} {held : Bool} {r : Option Response} (taken : TakesTick i s)
      (heldUnmasked : held = true → s.tPend = true ∧ s.tie = true) :
      Effect s i ((tickHandler { s with tie := true, tPend := held }).respond r)
  | reset : Effect s .reset ((setup s).respond none)
  | wake {l : Bool} (asleep : s.mode = .sleep) (edge : l ≠ s.btnN) :
      Effect s (.pin l) ((setup { s with btnN := l }).respond none)
  /-- Asleep, nothing but the result. -/
  | asleep {i : Instr} {r : Option Response} (asleep : s.mode = .sleep)
      (noSetup : ¬ RunsSetup i s) : Effect s i (s.respond r)
  /-- NOP and RD_STATUS awake. -/
  | silent {i : Instr} {r : Option Response} (which : i = .nop ∨ i = .rdStatus)
      (awake : s.mode = .run) : Effect s i (s.respond r)
  | pwrUp {r : Option Response} (awake : s.mode = .run) : Effect s .pwrUp ((powerUp s).respond r)
  | pwrDown {r : Option Response} (awake : s.mode = .run) :
      Effect s .pwrDown ((powerDown s).respond r)
  | romLow {r : Option Response} (awake : s.mode = .run) :
      Effect s .romLow { s with romSel := .low, response := r }
  | romHigh {r : Option Response} (awake : s.mode = .run) :
      Effect s .romHigh { s with romSel := .high, response := r }
  | tickMask {r : Option Response} (awake : s.mode = .run) :
      Effect s .tickMask { s with tie := false, response := r }
  | unmaskNothing {r : Option Response} (awake : s.mode = .run) (nothingHeld : s.tPend = false) :
      Effect s .tickUnmask { s with tie := true, response := r }
  | holdTick {r : Option Response} (awake : s.mode = .run) (masked : s.tie = false) :
      Effect s .tick { s with tPend := true, response := r }
  | pin {l : Bool} {r : Option Response} (awake : s.mode = .run) :
      Effect s (.pin l) { s with btnN := l, response := r }

theorem effect_of_takesTick {i : Instr} {s t : State} (h : TakesTick i s) (e : exec i s = .next t) :
    Effect s i t := by
  obtain ⟨hm, ⟨rfl, ht⟩ | ⟨rfl, hp⟩⟩ := id h
  · have hs : s = { s with tie := true, tPend := s.tPend } := by rw [← ht]
    rw [exec_tick_taken hm ht, hs] at e; cases e
    exact .takenTick h (fun held => ⟨held, ht⟩)
  · rw [exec_unmask_held hm hp] at e; cases e
    exact .takenTick h nofun

theorem effect_of_runsSetup {i : Instr} {s t : State} (h : RunsSetup i s) (e : exec i s = .next t) :
    Effect s i t := by
  obtain rfl | ⟨l, rfl, hm, hl⟩ := h
  · cases e; exact .reset
  · rw [exec_pin_wakes hm hl] at e; cases e; exact .wake hm hl

/-- `exec` acts in one of the ways of `Effect`. -/
theorem exec_effect {i : Instr} {s t : State} (e : exec i s = .next t) : Effect s i t := by
  by_cases htick : TakesTick i s
  · exact effect_of_takesTick htick e
  by_cases hsetup : RunsSetup i s
  · exact effect_of_runsSetup hsetup e
  obtain ⟨hm, h⟩ | ⟨hm, ⟨rfl, h⟩ | ⟨rfl, h⟩ | ⟨rfl, h⟩ | ⟨rfl, h⟩ | ⟨l, rfl, h⟩ | ⟨rfl, h⟩ |
    ⟨rfl, hp, h⟩ | ⟨rfl, ht, h⟩ | ⟨hi, h⟩⟩ := exec_otherwise htick hsetup e
  all_goals rw [h]
  · exact .asleep hm hsetup
  · exact .pwrUp hm
  · exact .pwrDown hm
  · exact .romLow hm
  · exact .romHigh hm
  · exact .pin hm
  · exact .tickMask hm
  · exact .unmaskNothing hm hp
  · exact .holdTick hm ht
  · exact .silent hi hm

end Sys2Proof.Machine
end

section
/-! PROOFS. Whole-machine rules (spec/10_state.md R20, 41_power_fsm.md R135, 43_clock_divider.md
R181, 60_exceptions.md R255): each is read off the ways in which a stimulus can act. -/

namespace Sys2Proof.Machine

@[simp] theorem tickHandler_romSel (s : State) : (tickHandler s).romSel = s.romSel := by
  obtain ⟨h, -⟩ := tickHandler_keeps s
  exact h
@[simp] theorem tickHandler_btnN (s : State) : (tickHandler s).btnN = s.btnN := by
  obtain ⟨-, h, -⟩ := tickHandler_keeps s
  exact h
@[simp] theorem tickHandler_cfg (s : State) : (tickHandler s).cfg = s.cfg := by
  obtain ⟨-, -, h, -⟩ := tickHandler_keeps s
  exact h
@[simp] theorem tickHandler_stimuli (s : State) : (tickHandler s).stimuli = s.stimuli := by
  obtain ⟨-, -, -, h, -⟩ := tickHandler_keeps s
  exact h
@[simp] theorem tickHandler_refusal (s : State) : (tickHandler s).refusal = s.refusal := by
  obtain ⟨-, -, -, -, -, h, -⟩ := tickHandler_keeps s
  exact h
@[simp] theorem tickHandler_storeScript (s : State) :
    (tickHandler s).storeScript = s.storeScript := by
  obtain ⟨-, -, -, -, -, -, h, -⟩ := tickHandler_keeps s
  exact h
@[simp] theorem tickHandler_storeReads (s : State) : (tickHandler s).storeReads = s.storeReads := by
  obtain ⟨-, -, -, -, -, -, -, h⟩ := tickHandler_keeps s
  exact h

/-- The fields beside the block's own, which no stimulus writes. -/
theorem exec_keeps {i : Instr} {s t : State} (e : exec i s = .next t) :
    t.cfg = s.cfg ∧ t.stimuli = s.stimuli ∧ t.refusal = s.refusal ∧
      t.storeScript = s.storeScript := by
  cases exec_effect e <;> simp

/-- Settles O30: a taken tick by the handler's frame; every other TICK or unmask writes at most TIE,
TPEND and the result. -/
theorem ticksLeaveSelectorButtonAndStoreAlone :
    Obligations.TicksLeaveSelectorButtonAndStoreAlone := by
  unfold Obligations.TicksLeaveSelectorButtonAndStoreAlone
  intro i s t hi e
  have heff := exec_effect e
  obtain rfl | rfl := hi <;> cases heff <;> simp

/-- Settles O29: the handler's timers, whichever stimulus takes the tick. -/
theorem takenTickRunsExactlyOneTimer : Obligations.TakenTickRunsExactlyOneTimer := by
  unfold Obligations.TakenTickRunsExactlyOneTimer
  intro i s t h e
  obtain ⟨r, u, hu, rfl⟩ := exec_takesTick h e
  have htimers := tickHandler_timers u
  rw [hu] at htimers ⊢
  simpa [min_succ_eq_satInc] using htimers

/-- Settles O34: of the ways to act, two write ROMSEL as an operation and two through `Setup()`. -/
theorem romSelectionIsWrittenOnlyByItsWriters :
    Obligations.RomSelectionIsWrittenOnlyByItsWriters := by
  unfold Obligations.RomSelectionIsWrittenOnlyByItsWriters
  intro i s t e
  cases exec_effect e with
  | romLow hm => exact .inl ⟨rfl, hm, rfl⟩
  | romHigh hm => exact .inr (.inl ⟨rfl, hm, rfl⟩)
  | reset => exact .inr (.inr (.inl ⟨.inl rfl, rfl⟩))
  | wake hm hl => exact .inr (.inr (.inl ⟨.inr ⟨_, rfl, hm, hl⟩, rfl⟩))
  | takenTick => simp
  | _ => exact .inr (.inr (.inr rfl))

theorem runsSetup_pin_iff {l : Bool} {s : State} :
    RunsSetup (.pin l) s ↔ s.mode = .sleep ∧ l ≠ s.btnN := by
  simp [RunsSetup]

theorem TakesTick.ne_pin {i : Instr} {s : State} (h : TakesTick i s) (l : Bool) : i ≠ .pin l := by
  rintro rfl; simp [TakesTick] at h

/-- Settles O35: asleep a PIN that runs no `Setup()` carries the stored level; awake it writes its
operand. -/
theorem buttonLevelIsWrittenOnlyByPin : Obligations.ButtonLevelIsWrittenOnlyByPin := by
  unfold Obligations.ButtonLevelIsWrittenOnlyByPin
  intro i s t e
  cases exec_effect e with
  | takenTick taken => exact ⟨fun l hi => absurd hi (taken.ne_pin l), fun _ => tickHandler_btnN _⟩
  | asleep hm hs =>
    refine ⟨?_, fun _ => rfl⟩
    rintro l rfl
    simpa [runsSetup_pin_iff, hm, eq_comm] using hs
  | silent hi => obtain rfl | rfl := hi <;> exact ⟨nofun, fun _ => rfl⟩
  | wake | pin => exact ⟨fun l hl => Instr.pin.inj hl, fun hne => absurd rfl (hne _)⟩
  | _ => exact ⟨nofun, fun _ => rfl⟩

/-- PWR while OFF: PWR_UP and the classifier's power-up turn the host on. -/
theorem exec_pwr_on_iff {i : Instr} {s t : State} (e : exec i s = .next t) (hoff : s.pwr = .off) :
    t.pwr = .on ↔ (i = .pwrUp ∧ s.mode = .run) ∨
      (TakesTick i s ∧ s.btnN = true ∧ s.cfg.short < s.pressT) := by
  cases exec_effect e with
  | takenTick taken =>
    have hi : i ≠ .pwrUp := by rintro rfl; simp [TakesTick] at taken
    simp [tickHandler_pwr, hoff, taken, hi]
  | pwrUp hm => simp [hm]
  | asleep hm => simp [TakesTick, hoff, hm]
  | silent hi => obtain rfl | rfl := hi <;> simp [TakesTick, hoff]
  | unmaskNothing hm hp => simp [TakesTick, hoff, hp]
  | holdTick hm ht => simp [TakesTick, hoff, ht]
  | _ => simp [TakesTick, hoff]

/-- PWR while ON: PWR_DOWN, the classifier's power-down and `Setup()` turn the host off. -/
theorem exec_pwr_off_iff {i : Instr} {s t : State} (e : exec i s = .next t) (hon : s.pwr = .on) :
    t.pwr = .off ↔ (i = .pwrDown ∧ s.mode = .run) ∨
      (TakesTick i s ∧ s.btnN = true ∧ s.cfg.long < s.pressT) ∨ RunsSetup i s := by
  cases exec_effect e with
  | takenTick taken =>
    have hi : i ≠ .pwrDown := by rintro rfl; simp [TakesTick] at taken
    simp [tickHandler_pwr, hon, taken, hi, not_runsSetup_of_takesTick taken]
  | pwrDown hm => simp [hm]
  | reset => simp [RunsSetup]
  | wake hm hl => simp [runsSetup_pin_iff, hm, hl]
  | asleep hm hs => simp [TakesTick, hon, hm, hs]
  | silent hi => obtain rfl | rfl := hi <;> simp [TakesTick, RunsSetup, hon]
  | unmaskNothing hm hp => simp [TakesTick, RunsSetup, hon, hp]
  | holdTick hm ht => simp [TakesTick, RunsSetup, hon, ht]
  | pin hm => simp [TakesTick, RunsSetup, hon, hm]
  | _ => simp [TakesTick, RunsSetup, hon]

/-- Settles O33: the table's two halves. -/
theorem powerChangesOnlyAsItsTableSays : Obligations.PowerChangesOnlyAsItsTableSays := by
  unfold Obligations.PowerChangesOnlyAsItsTableSays
  exact fun i s t e => ⟨exec_pwr_on_iff e, exec_pwr_off_iff e⟩

/-- Settles O36: the handler steps the divider only where it leaves the host on. -/
theorem dividerMovesOnlyInTicksThatLeaveTheHostOn :
    Obligations.DividerMovesOnlyInTicksThatLeaveTheHostOn := by
  unfold Obligations.DividerMovesOnlyInTicksThatLeaveTheHostOn
  intro i s t e
  cases exec_effect e with
  | @takenTick i held r taken =>
    obtain hheld | hon := tickHandler_divider { s with tie := true, tPend := held }
    · exact .inl hheld
    · exact .inr (.inl ⟨taken, hon⟩)
  | reset => exact .inr (.inr ⟨.inl rfl, rfl, rfl⟩)
  | wake hm hl => exact .inr (.inr ⟨runsSetup_pin_iff.2 ⟨hm, hl⟩, rfl, rfl⟩)
  | _ => exact .inl ⟨rfl, rfl⟩

/-- An awake block falls asleep only by hibernation, in a taken tick (R255). -/
theorem exec_falls_asleep {i : Instr} {s t : State} (e : exec i s = .next t) (hm : s.mode = .run)
    (hslept : t.mode = .sleep) :
    TakesTick i s ∧ s.cfg.hibernateEn = true ∧ t.pwr = .off ∧ s.cfg.idle < t.idleT ∧
      t.tie = false ∧ t.tPend = false := by
  have hawake : s.mode ≠ .sleep := by rw [hm]; nofun
  cases exec_effect e with
  | @takenTick i held r taken =>
    obtain ⟨hkept, -⟩ | ⟨-, htie, hpend, hen, hoff, hidle⟩ :=
      tickHandler_mode { s with tie := true, tPend := held }
    · exact absurd (hkept.symm.trans hslept) hawake
    · exact ⟨taken, hen, hoff, hidle, htie, hpend⟩
  | reset | wake => cases hslept
  | _ => exact absurd hslept hawake

/-- A stimulus presented to a sleeping block runs `Setup()` or changes nothing but the result. -/
theorem exec_asleep_cases {i : Instr} {s t : State} (e : exec i s = .next t)
    (hm : s.mode = .sleep) :
    (RunsSetup i s ∧ t.mode = .run) ∨
      (¬ RunsSetup i s ∧ t.mode = .sleep ∧ t = { s with response := t.response }) := by
  have hasleep : s.mode ≠ .run := by rw [hm]; nofun
  cases exec_effect e with
  | takenTick taken => exact absurd taken.1 hasleep
  | reset => exact .inl ⟨.inl rfl, rfl⟩
  | wake hm hl => exact .inl ⟨runsSetup_pin_iff.2 ⟨hm, hl⟩, rfl⟩
  | asleep hm hs => exact .inr ⟨hs, hm, rfl⟩
  | silent _ h | pwrUp h | pwrDown h | romLow h | romHigh h | tickMask h | unmaskNothing h
  | holdTick h | pin h => exact absurd h hasleep

/-- Settles O37: how a block falls asleep, how a sleeping one reacts, and what `Setup()` leaves. -/
theorem sleepIsEnteredAndLeftOnlyAsStated : Obligations.SleepIsEnteredAndLeftOnlyAsStated := by
  unfold Obligations.SleepIsEnteredAndLeftOnlyAsStated
  refine fun i s t e => ⟨exec_falls_asleep e, fun hm => ?leftOnlyBySetup, fun hm hrun => ?afterWake,
    fun hm hsleep => ?nothingElse⟩
  all_goals obtain ⟨hsetup, hmode⟩ | ⟨hsetup, hmode, ht⟩ := exec_asleep_cases e hm
  case leftOnlyBySetup.inl => simp [hsetup, hmode]
  case leftOnlyBySetup.inr => simp [hsetup, hmode]
  case afterWake.inl =>
    obtain ⟨ht, hreset, hpin⟩ := exec_runsSetup hsetup e
    refine ⟨by rw [ht]; rfl, State.pins_of_off (by rw [ht]; rfl), hreset, hpin, ?_⟩
    rw [ht]
    exact ⟨rfl, rfl, rfl, rfl, rfl, rfl⟩
  case afterWake.inr => rw [hmode] at hrun; cases hrun
  case nothingElse.inl => rw [hmode] at hsleep; cases hsleep
  case nothingElse.inr => exact ht

/-- Settles O38: a sleeping block has the button released, so the edge that wakes it is to level 0;
the tick after it samples a press at `PRESS_T = 0`. -/
theorem wakeEdgeIsAPress : Obligations.WakeEdgeIsAPress := by
  unfold Obligations.WakeEdgeIsAPress
  intro l s t hinv hm e hrun
  have hreleased : s.btnN = true := hinv.sleepReleased hm
  have hmax : 0 < s.cfg.counterMax := by
    have hw := (wellFormed_iff _).1 hinv.config
    omega
  cases exec_effect e with
  | takenTick taken => exact absurd rfl (taken.ne_pin l)
  | asleep hm hs => cases hm.symm.trans hrun
  | silent hi => simp at hi
  | pin hrun => cases hm.symm.trans hrun
  | wake hm hl =>
    obtain rfl : l = false := by simpa [hreleased] using hl
    refine ⟨rfl, rfl, _, exec_tick_taken rfl rfl, ?_⟩
    exact ((tickHandler_timers _).1 rfl).1.trans (satInc_of_lt hmax)

end Sys2Proof.Machine
end

section
/-! PROOFS. PIN, RESET and the launch (spec/42_idle_wake.md R160, 70_reset_and_hazards.md R270 to
R273). -/

namespace Sys2Proof.Machine

/-- The configuration of `State.reset` is valid. -/
theorem reset_wellFormed : State.reset.cfg.wellFormed = true := by decide

/-- Settles O1: the launch is written field for field as `Setup()` writes; the read it counts is the
store's first. -/
theorem runStartsInTheSetupState : Obligations.RunStartsInTheSetupState := by
  unfold Obligations.RunStartsInTheSetupState
  refine ⟨fun s hreads => ?setup, fun c b script => ?fields,
    ⟨_, _, _, reset_wellFormed, rfl⟩⟩
  case setup => rw [setup, hreads]; rfl
  case fields => exact ⟨rfl, rfl, rfl, rfl, rfl, rfl, rfl, rfl, rfl, rfl, State.pins_of_off rfl⟩

/-- Settles O31: an edge wakes the block only asleep, and no edge changes no field. -/
theorem pinStoresTheLevelAndWakes : Obligations.PinStoresTheLevelAndWakes := by
  unfold Obligations.PinStoresTheLevelAndWakes
  refine ⟨rfl, rfl, fun l s => ⟨exec_pin_awake, ?noEdge, exec_pin_wakes⟩⟩
  case noEdge => rintro rfl; exact exec_pin_noEdge s

/-- Settles O32: RESET is `Setup()` with no result, and the script's entry, where it has one, is the
store's answer. -/
theorem resetRunsSetupInEveryMode : Obligations.ResetRunsSetupInEveryMode := by
  unfold Obligations.ResetRunsSetupInEveryMode
  exact fun s => ⟨(setup s).respond none, rfl, rfl, State.pins_of_off rfl,
    fun b => storeAnswer_fixed⟩

end Sys2Proof.Machine
end

section
/-! PROOFS. One step (spec/00_scope.md R7; 60_exceptions.md R243): a stimulus word, a reserved word,
or an invalid configuration. -/

namespace Sys2Proof.Machine

theorem step_of_decode {s : State} {w : Byte} {rest : List Byte} {i : Instr}
    (hc : s.cfg.wellFormed = true) (hs : s.stimuli = w :: rest) (hd : decode w = .ok i) :
    step s = exec i { s with stimuli := rest } := by
  simp only [step, hc, if_true, fetch_cons hs, hd]

theorem step_of_reserved {s : State} {w : Byte} {rest : List Byte} {e : Rejection}
    (hc : s.cfg.wellFormed = true) (hs : s.stimuli = w :: rest) (hd : decode w = .error e) :
    step s = .next (refuse (.reservedWord w) { s with stimuli := rest }) := by
  simp only [step, hc, if_true, fetch_cons hs, hd]

theorem step_of_invalid {s : State} (hc : s.cfg.wellFormed = false) :
    step s = .refused .invalidConfiguration := by
  simp [step, hc]

/-- Settles O6: a presented word is the first of the list, and the encoder's word decodes. -/
theorem stepRunsTheDecodedStimulus : Obligations.StepRunsTheDecodedStimulus := by
  unfold Obligations.StepRunsTheDecodedStimulus
  refine ⟨fun s w rest i hc hs hd => step_of_decode hc hs hd, fun s i hc => ?presented⟩
  case presented =>
    have hfirst : (s.withFetchWord 8 (encode i).toNat).stimuli = encode i :: s.stimuli := by simp
    exact step_of_decode hc hfirst (decode_encode i)

/-- Settles O7: a word of no stimulus is rejected by the decoder. -/
theorem reservedWordOnlySetsTheRefusalMark : Obligations.ReservedWordOnlySetsTheRefusalMark := by
  unfold Obligations.ReservedWordOnlySetsTheRefusalMark
  intro s w rest hc hs hw
  obtain ⟨e, hd⟩ := exists_decode_eq_error hw
  exact step_of_reserved hc hs hd

/-- With a valid configuration a step answers a next state: the stimulus's, or the refusal's. -/
theorem step_exists_next {s : State} (hc : s.cfg.wellFormed = true) : ∃ t, step s = .next t := by
  obtain ⟨-, h⟩ | ⟨w, rest, i, -, -, h⟩ | ⟨w, rest, e, -, -, h⟩ := step_cases hc
  · exact ⟨_, h⟩
  · rw [h]; exact exec_exists_next i _
  · exact ⟨_, h⟩

theorem step_eq_refused_iff {s : State} :
    step s = .refused .invalidConfiguration ↔ ¬ s.cfg.wellFormed = true := by
  refine ⟨fun h hc => ?_, fun hc => step_of_invalid (Bool.eq_false_of_not_eq_true hc)⟩
  obtain ⟨t, ht⟩ := step_exists_next hc
  rw [h] at ht; cases ht

/-- Settles O9: the check of the configuration is the conjunction of its constraints. -/
theorem invalidConfigurationIsRefused : Obligations.InvalidConfigurationIsRefused := by
  unfold Obligations.InvalidConfigurationIsRefused
  exact fun s => step_eq_refused_iff.trans (not_congr (wellFormed_iff s.cfg))

/-- A step that answers next started from a valid configuration. -/
theorem wellFormed_of_step {s t : State} (h : step s = .next t) : s.cfg.wellFormed = true := by
  by_contra hc
  rw [step_eq_refused_iff.2 hc] at h; cases h

/-- Settles O8: an accepted stimulus keeps the mark by the frame of `exec`; a reserved word keeps
the first one. -/
theorem noStimulusClearsTheRefusalMark : Obligations.NoStimulusClearsTheRefusalMark := by
  unfold Obligations.NoStimulusClearsTheRefusalMark
  have hexec : ∀ (i : Instr) (s t : State), exec i s = .next t → t.refusal = s.refusal := by
    intro i s t e
    obtain ⟨-, -, hrefusal, -⟩ := exec_keeps e
    exact hrefusal
  refine ⟨fun s t r h hr => ?_, hexec⟩
  obtain ⟨-, hs⟩ | ⟨w, rest, i, -, -, hs⟩ | ⟨w, rest, e, -, -, hs⟩ :=
    step_cases (wellFormed_of_step h)
  all_goals rw [hs] at h
  · cases h; exact hr
  · exact (hexec _ _ _ h).trans hr
  · cases h; simp [hr]

/-- Settles O11: the frame of `exec`, the refusal's, or no stimulus and the same state. -/
theorem stepConsumesOneStimulusAndKeepsTheConfiguration :
    Obligations.StepConsumesOneStimulusAndKeepsTheConfiguration := by
  unfold Obligations.StepConsumesOneStimulusAndKeepsTheConfiguration
  intro s hc
  obtain ⟨t, ht⟩ := step_exists_next hc
  refine ⟨t, ht, ?_⟩
  obtain ⟨hnil, h⟩ | ⟨w, rest, i, hcons, -, h⟩ | ⟨w, rest, e, hcons, -, h⟩ := step_cases hc
  all_goals rw [h] at ht
  · cases ht; simp [hnil]
  · obtain ⟨hcfg, hstimuli, -, hscript⟩ := exec_keeps ht
    exact ⟨hcfg, by rw [hstimuli, hcons]; rfl, hscript⟩
  · cases ht; simp [hcons]

end Sys2Proof.Machine
end

section
/-! PROOFS. The invariants between stimuli (spec/10_state.md R40): they hold at the launch, every
way in which a stimulus can act keeps them, and so does every step. -/

namespace Sys2Proof.Machine

/-- Awake, the invariants about sleep ask nothing; the pin's (R40 item 1) holds in every state. -/
theorem State.Inv.of_awake {s : State} (hm : s.mode = .run) (hc : s.cfg.wellFormed = true)
    (htod : s.tod < s.cfg.clkDiv) (hpressIdle : 0 < s.pressT → s.idleT = 0)
    (hpress : s.pressT ≤ s.cfg.counterMax) (hidle : s.idleT ≤ s.cfg.counterMax)
    (hheld : s.tPend = true → s.tie = false) : s.Inv where
  config := hc
  offRomPin hoff := by rw [State.pins_of_off hoff]
  sleepPwr h := by rw [hm] at h; cases h
  sleepTie h := by rw [hm] at h; cases h
  sleepTPend h := by rw [hm] at h; cases h
  tod := htod
  pressIdle := hpressIdle
  pressMax := hpress
  idleMax := hidle
  sleepReleased h := by rw [hm] at h; cases h
  sleepEnabled h := by rw [hm] at h; cases h
  sleepIdle h := by rw [hm] at h; cases h
  heldMasked := hheld

theorem clkDiv_pos {c : Config} (hc : c.wellFormed = true) : 0 < c.clkDiv := by
  have hw := (wellFormed_iff c).1 hc
  omega

theorem launch_inv {c : Config} (hc : c.wellFormed = true) (b : Bool) (script : List RomBank) :
    (State.launch c b script).Inv :=
  .of_awake rfl hc (clkDiv_pos hc) (fun _ => rfl) (Nat.zero_le _) (Nat.zero_le _) nofun

/-- Settles O2: a launch is awake, with every counter at 0 and nothing held. -/
theorem launchMeetsTheInvariants : Obligations.LaunchMeetsTheInvariants := by
  unfold Obligations.LaunchMeetsTheInvariants
  exact ⟨fun c b script hc => launch_inv hc b script, launch_inv reset_wellFormed _ _⟩

/-- The invariants do not read the model's own stimuli, result and refusal mark. -/
theorem State.Inv.of_ports {s : State} (h : s.Inv) (l : List Byte) (r : Option Response)
    (m : Option Refusal) : State.Inv { s with stimuli := l, response := r, refusal := m } :=
  ⟨h.config, h.offRomPin, h.sleepPwr, h.sleepTie, h.sleepTPend, h.tod, h.pressIdle, h.pressMax,
    h.idleMax, h.sleepReleased, h.sleepEnabled, h.sleepIdle, h.heldMasked⟩

theorem State.Inv.respond {s : State} (h : s.Inv) (r : Option Response) : (s.respond r).Inv :=
  h.of_ports s.stimuli r s.refusal

theorem setup_inv {s : State} (hc : s.cfg.wellFormed = true) : (setup s).Inv :=
  .of_awake rfl hc (clkDiv_pos hc) (fun _ => rfl) (Nat.zero_le _) (Nat.zero_le _) nofun

/-- One timer runs and the other is zero, and both stay in the counters' range. -/
theorem tickHandler_timers_bounded (s : State) :
    (0 < (tickHandler s).pressT → (tickHandler s).idleT = 0) ∧
      (tickHandler s).pressT ≤ s.cfg.counterMax ∧ (tickHandler s).idleT ≤ s.cfg.counterMax := by
  obtain ⟨hpressed, hreleased⟩ := tickHandler_timers s
  cases hb : s.btnN
  · obtain ⟨hp, hi⟩ := hpressed hb
    exact ⟨fun _ => hi, hp ▸ satInc_le .., hi ▸ Nat.zero_le _⟩
  · obtain ⟨hp, hi⟩ := hreleased hb
    exact ⟨fun h => absurd hp h.ne', hp ▸ Nat.zero_le _, hi ▸ satInc_le ..⟩

/-- A press counts no idle time, so a tick that exceeds the idle threshold samples a release. -/
theorem btnN_of_idleT_pos {s : State} (h : 0 < (tickHandler s).idleT) : s.btnN = true := by
  by_contra hb
  obtain ⟨-, hi⟩ := (tickHandler_timers s).1 (Bool.eq_false_of_not_eq_true hb)
  omega

/-- The handler keeps the invariants, from an awake state with no tick held: it stays awake, or it
hibernates a released, OFF state whose idle count exceeds the threshold. -/
theorem tickHandler_inv {s : State} (hm : s.mode = .run) (hc : s.cfg.wellFormed = true)
    (htod : s.tod < s.cfg.clkDiv) (hp : s.tPend = false) : (tickHandler s).Inv := by
  have htod' := tickHandler_tod_lt hc htod
  obtain ⟨hpressIdle, hpress, hidle⟩ := tickHandler_timers_bounded s
  have hmodes := tickHandler_mode s
  rw [← tickHandler_cfg s] at hc htod' hpress hidle hmodes
  obtain ⟨hmode, -, hpend, -⟩ | ⟨-, htie, hpend, hen, hoff, hexc⟩ := hmodes
  · exact .of_awake (hmode.trans hm) hc htod' hpressIdle hpress hidle
      (fun h => by rw [hpend, hp] at h; cases h)
  · have hreleased : (tickHandler s).btnN = true :=
      (tickHandler_btnN s).trans (btnN_of_idleT_pos (Nat.zero_lt_of_lt hexc))
    exact
      { config := hc
        offRomPin := fun h => by rw [State.pins_of_off h]
        sleepPwr := fun _ => hoff
        sleepTie := fun _ => htie
        sleepTPend := fun _ => hpend
        tod := htod'
        pressIdle := hpressIdle
        pressMax := hpress
        idleMax := hidle
        sleepReleased := fun _ => hreleased
        sleepEnabled := fun _ => hen
        sleepIdle := fun _ => hexc
        heldMasked := fun _ => htie }

/-- Every stimulus keeps the invariants. -/
theorem exec_inv {i : Instr} {s t : State} (h : s.Inv) (e : exec i s = .next t) : t.Inv := by
  cases exec_effect e with
  | @takenTick i held r taken hheld =>
    have hnone : held = false := by
      by_contra hne
      obtain ⟨hpend, htie⟩ := hheld (Bool.eq_true_of_not_eq_false hne)
      exact absurd htie (by rw [h.heldMasked hpend]; nofun)
    exact (tickHandler_inv (s := { s with tie := true, tPend := held }) taken.1 h.config h.tod
      hnone).respond r
  | reset => exact (setup_inv h.config).respond none
  | @wake l => exact (setup_inv (s := { s with btnN := l }) h.config).respond none
  | asleep | silent => exact h.respond _
  | pwrUp hm | pwrDown hm | romLow hm | romHigh hm | pin hm =>
    exact .of_awake hm h.config h.tod h.pressIdle h.pressMax h.idleMax h.heldMasked
  | tickMask hm =>
    exact .of_awake hm h.config h.tod h.pressIdle h.pressMax h.idleMax (fun _ => rfl)
  | unmaskNothing hm hp =>
    exact .of_awake hm h.config h.tod h.pressIdle h.pressMax h.idleMax
      (fun hpend => by cases hp.symm.trans hpend)
  | holdTick hm ht =>
    exact .of_awake hm h.config h.tod h.pressIdle h.pressMax h.idleMax (fun _ => ht)

/-- Settles O3: a stimulus keeps the invariants; a reserved word and an empty list leave the block
as it is. -/
theorem stepKeepsTheInvariants : Obligations.StepKeepsTheInvariants := by
  unfold Obligations.StepKeepsTheInvariants
  intro s t h ht
  obtain ⟨-, hs⟩ | ⟨w, rest, i, -, -, hs⟩ | ⟨w, rest, e, -, -, hs⟩ := step_cases h.config
  all_goals rw [hs] at ht
  · cases ht; exact h
  · exact exec_inv (h.of_ports rest s.response s.refusal) ht
  · cases ht; exact h.of_ports rest none _

end Sys2Proof.Machine
end

section
/-! PROOFS. Sequences of stimuli (spec/30_encoding.md R83): a run through one presented stimulus,
and an induction over a run of ticks. -/

namespace Sys2Proof.Machine

theorem runSteps_stimulus {s t : State} {i : Instr} {l : List Byte} (hc : s.cfg.wellFormed = true)
    (hs : s.stimuli = encode i :: l) (he : exec i { s with stimuli := l } = .next t) :
    runSteps 1 s = .next t :=
  runSteps_cons hc hs (decode_encode i) he 0

theorem runSteps_trans {m n : Nat} {s t u : State} (h : runSteps m s = .next t)
    (h' : runSteps n t = .next u) : runSteps (m + n) s = .next u :=
  (runSteps_add h n).trans h'

theorem encodeAll_ticks_succ (n : Nat) (rest : List Byte) :
    encodeAll (Pseudo.ticks (n + 1)).expand ++ rest =
      encode .tick :: (encodeAll (Pseudo.ticks n).expand ++ rest) := rfl

/-- A predicate that each of `n` presented ticks carries from `k` to `k + 1`, and that does not read
the stimuli, holds after `k` of them, with the others still to come. -/
theorem runSteps_ticks {P : Nat → State → Prop} {s : State} {n : Nat} {rest : List Byte}
    (hc : s.cfg.wellFormed = true) (hs : s.stimuli = encodeAll (Pseudo.ticks n).expand ++ rest)
    (h0 : P 0 s)
    (hstimuli : ∀ k u l, P k u → P k { u with stimuli := l })
    (hstep : ∀ k u t, k < n → u.cfg = s.cfg → P k u → exec .tick u = .next t → P (k + 1) t) :
    ∀ k ≤ n, ∃ t, runSteps k s = .next t ∧ P k t ∧ t.cfg = s.cfg ∧
      t.stimuli = encodeAll (Pseudo.ticks (n - k)).expand ++ rest := by
  intro k
  induction k with
  | zero => exact fun _ => ⟨s, rfl, h0, rfl, hs⟩
  | succ k ih =>
    intro hk
    obtain ⟨u, hrun, hP, hcfg, hu⟩ := ih (by omega)
    rw [show n - k = n - (k + 1) + 1 by omega, encodeAll_ticks_succ] at hu
    obtain ⟨t, ht⟩ := exec_exists_next .tick
      { u with stimuli := encodeAll (Pseudo.ticks (n - (k + 1))).expand ++ rest }
    obtain ⟨htcfg, htstimuli, -, -⟩ := exec_keeps ht
    exact ⟨t, runSteps_trans hrun (runSteps_stimulus (hcfg ▸ hc) hu ht),
      hstep k _ t (by omega) (by exact hcfg) (hstimuli k u _ hP) ht, htcfg.trans hcfg, htstimuli⟩

end Sys2Proof.Machine
end

section
/-! PROOFS. A press of `d` ticks (spec/40_classifier.md R106). -/

namespace Sys2Proof.Machine

/-- Awake with ticks enabled, the button at level `b`, PWR = `p`, and a press of `d` ticks
counted. -/
structure PressCounted (b : Bool) (p : Power) (d : Nat) (s : State) : Prop where
  awake : s.mode = .run
  unmasked : s.tie = true
  button : s.btnN = b
  pwr : s.pwr = p
  count : s.pressT = min d s.cfg.counterMax

/-- A presented PIN moves the level and nothing else of this. -/
theorem PressCounted.runPin {b l : Bool} {p : Power} {d : Nat} {s : State} {ws : List Byte}
    (h : PressCounted b p d s) (hc : s.cfg.wellFormed = true)
    (hs : s.stimuli = encode (.pin l) :: ws) :
    ∃ t, runSteps 1 s = .next t ∧ PressCounted l p d t ∧ t.cfg = s.cfg ∧ t.stimuli = ws :=
  ⟨_, runSteps_stimulus hc hs (exec_pin_awake h.awake), ⟨h.awake, h.unmasked, rfl, h.pwr, h.count⟩,
    rfl, rfl⟩

theorem PressCounted.stimuli {b : Bool} {p : Power} {d : Nat} {s : State} (h : PressCounted b p d s)
    (ws : List Byte) : PressCounted b p d { s with stimuli := ws } := { h with }

/-- One more tick of the press: no event, and no idle time that could hibernate. -/
theorem PressCounted.tick {p : Power} {d : Nat} {s t : State} (h : PressCounted false p d s)
    (e : exec .tick s = .next t) : PressCounted false p (d + 1) t := by
  rw [exec_tick_taken h.awake h.unmasked] at e; cases e
  obtain ⟨hpress, hidle⟩ := (tickHandler_timers s).1 h.button
  obtain ⟨hmode, htie, -, -⟩ | ⟨-, -, -, -, -, hexc⟩ := tickHandler_mode s
  · exact
      { awake := hmode.trans h.awake
        unmasked := htie.trans h.unmasked
        button := (tickHandler_btnN s).trans h.button
        pwr := (tickHandler_pwr s).trans (by simp [h.button, h.pwr])
        count := by
          rw [State.respond_pressT, State.respond_cfg, tickHandler_cfg, hpress, satInc_eq_min,
            h.count]
          omega }
  · omega

/-- Released with no press counted, and PWR = `p`: no tick, taken or not, changes that. -/
structure Settled (p : Power) (s : State) : Prop where
  released : s.btnN = true
  noPress : s.pressT = 0
  pwr : s.pwr = p

theorem Settled.tick {p : Power} {s t : State} (h : Settled p s) (e : exec .tick s = .next t) :
    Settled p t := by
  cases exec_effect e with
  | @takenTick i held r =>
    exact
      { released := (tickHandler_btnN _).trans h.released
        noPress := ((tickHandler_timers { s with tie := true, tPend := held }).2 h.released).1
        pwr := (tickHandler_pwr _).trans (by simp [h.noPress, h.pwr]) }
  | asleep | silent | holdTick => exact ⟨h.released, h.noPress, h.pwr⟩

/-- The tick that samples the release decides PWR by the count, and leaves no press counted. -/
theorem PressCounted.release {p : Power} {d : Nat} {s t : State} (h : PressCounted true p d s)
    (e : exec .tick s = .next t) :
    Settled t.pwr t ∧
      (p = .off → (t.pwr = .on ↔ s.cfg.short < min d s.cfg.counterMax)) ∧
      (p = .on → (t.pwr = .off ↔ s.cfg.long < min d s.cfg.counterMax)) := by
  have htakes : TakesTick .tick s := ⟨h.awake, .inl ⟨rfl, h.unmasked⟩⟩
  refine ⟨?settled, fun hp => ?off, fun hp => ?on⟩
  case settled =>
    rw [exec_tick_taken h.awake h.unmasked] at e; cases e
    exact ⟨(tickHandler_btnN s).trans h.button, ((tickHandler_timers s).2 h.button).1, rfl⟩
  case off => simpa [htakes, h.button, h.count] using exec_pwr_on_iff e (h.pwr.trans hp)
  case on =>
    simpa [htakes, h.button, h.count, not_runsSetup_of_takesTick htakes] using
      exec_pwr_off_iff e (h.pwr.trans hp)

/-- Settles O41: the press, its `d` ticks, the release, the tick that samples it, and `k` ticks that
fire nothing more. -/
theorem pressOfDTicksIsClassifiedByDAlone : Obligations.PressOfDTicksIsClassifiedByDAlone := by
  unfold Obligations.PressOfDTicksIsClassifiedByDAlone
  intro s d k rest hinv hm ht hpress hs
  have hc := hinv.config
  have hcounted : PressCounted s.btnN s.pwr 0 s := ⟨hm, ht, rfl, rfl, by simp [hpress]⟩
  rw [encodeAll_append, encodeAll_hold, List.cons_append, List.cons_append, List.append_assoc,
    List.append_assoc] at hs
  obtain ⟨s₁, hrun₁, hpressed, hcfg₁, hs₁⟩ := hcounted.runPin hc hs
  rw [← hcfg₁] at hc ⊢
  obtain ⟨s₂, hrun₂, hheld, hcfg₂, hs₂⟩ :=
    runSteps_ticks (P := PressCounted false s.pwr) hc hs₁ hpressed
      (fun _ _ l h => h.stimuli l) (fun _ _ _ _ _ h e => h.tick e) d le_rfl
  rw [Nat.sub_self] at hs₂
  rw [← hcfg₂] at hc ⊢
  obtain ⟨s₃, hrun₃, hreleased, hcfg₃, hs₃⟩ := hheld.runPin hc hs₂
  rw [← hcfg₃] at hc ⊢
  obtain ⟨s₄, he⟩ :=
    exec_exists_next .tick { s₃ with stimuli := encodeAll (Pseudo.ticks k).expand ++ rest }
  have hrun₄ := runSteps_stimulus hc hs₃ he
  obtain ⟨hsettled, hoff, hon⟩ := (hreleased.stimuli _).release he
  obtain ⟨hcfg₄, hs₄, -, -⟩ := exec_keeps he
  obtain ⟨t, hrun₅, hend, -, hrest⟩ :=
    runSteps_ticks (P := fun _ => Settled s₄.pwr) (by rw [hcfg₄]; exact hc) hs₄ hsettled
      (fun _ _ _ h => { h with }) (fun _ _ _ _ _ h e => h.tick e) k le_rfl
  refine ⟨t, ?run, by rw [hrest, Nat.sub_self]; rfl, ?_⟩
  case run =>
    have hrun := runSteps_trans hrun₁ (runSteps_trans hrun₂ (runSteps_trans hrun₃
      (runSteps_trans hrun₄ hrun₅)))
    rwa [show 1 + (d + (1 + (1 + k))) = d + 3 + k by omega] at hrun
  rw [hend.pwr]
  exact ⟨hoff, hon⟩

end Sys2Proof.Machine
end

section
/-! PROOFS. Idle ticks while OFF (spec/42_idle_wake.md R164) and the hazard of a power-down after a
long idle time (spec/70_reset_and_hazards.md R282). -/

namespace Sys2Proof.Machine

/-- OFF and released, with no press that could power up and an idle count of `n`: awake with ticks
enabled while `n` is within the threshold, asleep once it exceeds it. -/
structure Idling (n : Nat) (s : State) : Prop where
  released : s.btnN = true
  off : s.pwr = .off
  shortPress : s.pressT ≤ s.cfg.short
  enabled : s.cfg.hibernateEn = true
  count : s.idleT = n
  awake : n ≤ s.cfg.idle → s.mode = .run ∧ s.tie = true
  asleep : s.cfg.idle < n → s.mode = .sleep ∧ s.tie = false

theorem Idling.tick {n : Nat} {s t : State} (h : Idling n s) (hc : s.cfg.wellFormed = true)
    (hn : n ≤ s.cfg.idle) (e : exec .tick s = .next t) : Idling (n + 1) t := by
  obtain ⟨hm, ht⟩ := h.awake hn
  have hw := (wellFormed_iff _).1 hc
  have hoff := h.off
  have hshort := h.shortPress
  rw [exec_tick_taken hm ht] at e; cases e
  obtain ⟨hpress, hidle⟩ := (tickHandler_timers s).2 h.released
  have hpwr : (tickHandler s).pwr = .off := by
    rw [tickHandler_pwr, hoff, if_neg (by omega), if_neg (by simp)]
  have hcount : (tickHandler s).idleT = n + 1 := by
    rw [hidle, h.count, satInc_of_lt (by omega)]
  have hmode := tickHandler_mode s
  simp only [h.enabled, hpwr, hcount, true_and, not_lt] at hmode
  rw [← tickHandler_cfg s] at hmode
  exact
    { released := (tickHandler_btnN s).trans h.released
      off := hpwr
      shortPress := by rw [State.respond_pressT, hpress]; exact Nat.zero_le _
      enabled := by simpa using h.enabled
      count := hcount
      awake := fun hle => by
        obtain ⟨hkept, htie, -⟩ | ⟨-, -, -, hexc⟩ := hmode
        · exact ⟨hkept.trans hm, htie.trans ht⟩
        · exact absurd hexc (by simpa using hle)
      asleep := fun hlt => by
        obtain ⟨-, -, -, hle⟩ | ⟨hslept, htie, -⟩ := hmode
        · exact absurd hlt (by simpa using hle)
        · exact ⟨hslept, htie⟩ }

/-- Settles O42: from `IDLE_T` on, each tick counts one, and the threshold is passed at the last. -/
theorem idleTicksHibernateAtTheThreshold : Obligations.IdleTicksHibernateAtTheThreshold := by
  unfold Obligations.IdleTicksHibernateAtTheThreshold
  intro s n rest hinv hm ht hb hoff hen hpress hidle hn hs
  have hstart : Idling (s.idleT + 0) s :=
    ⟨hb, hoff, hpress, hen, rfl, fun _ => ⟨hm, ht⟩, fun h => by omega⟩
  have hrun := runSteps_ticks (P := fun k => Idling (s.idleT + k)) hinv.config hs hstart
    (fun _ _ _ h => { h with })
    (fun k u t hk hcfg h e => h.tick (hcfg ▸ hinv.config) (by rw [hcfg]; omega) e)
  refine ⟨fun k hk => ?below, ?atThreshold⟩
  case below =>
    obtain ⟨t, ht, hidling, hcfg, -⟩ := hrun k hk.le
    obtain ⟨hmode, htie⟩ := hidling.awake (by rw [hcfg]; omega)
    exact ⟨t, ht, hmode, htie, hidling.count⟩
  case atThreshold =>
    obtain ⟨t, ht, hidling, hcfg, hrest⟩ := hrun n le_rfl
    obtain ⟨hmode, htie⟩ := hidling.asleep (by rw [hcfg]; omega)
    exact ⟨t, ht, hmode, htie, hidling.count.trans hn, hidling.off,
      by rw [hrest, Nat.sub_self]; rfl⟩

theorem tickHandler_hibernates {s : State} (hb : s.btnN = true) (hoff : s.pwr = .off)
    (hpress : s.pressT ≤ s.cfg.short) (hen : s.cfg.hibernateEn = true)
    (hexc : s.cfg.idle < satInc s.cfg s.idleT) : tickHandler s = hibernate (countIdle s) :=
  (tickHandler_noEvent_off hb hoff hpress).trans (clockStep_idleCheck_exceeded hoff hen hexc)

/-- Settles O45: the idle count PWR_DOWN keeps exceeds the threshold, and so does its increment. -/
theorem pwrDownAfterLongIdleHibernatesAtTheNextTick :
    Obligations.PwrDownAfterLongIdleHibernatesAtTheNextTick := by
  unfold Obligations.PwrDownAfterLongIdleHibernatesAtTheNextTick
  intro s hinv hm ht hb hen hpress hidle
  have hexc : s.cfg.idle < satInc s.cfg s.idleT := by
    have hmax := hinv.idleMax
    rw [satInc_eq_min]; omega
  have hslept := tickHandler_hibernates (s := (powerDown s).respond (some .ok)) hb rfl hpress hen
    hexc
  refine ⟨_, _, exec_pwrDown_awake hm, rfl, hm, exec_tick_taken hm ht, ?_⟩
  rw [hslept]
  exact ⟨rfl, rfl, exec_controlPort_asleep rfl rfl⟩

end Sys2Proof.Machine
end

section
/-! PROOFS. The clock output while ON (spec/43_clock_divider.md R184, R185). -/

namespace Sys2Proof.Machine

/-- The divider is the last stage of a taken tick, and no stage before it writes TOD or CLKQ. -/
theorem tickHandler_eq_clockStep (s : State) :
    ∃ u, tickHandler s = clockStep u ∧ u.cfg = s.cfg ∧ u.tod = s.tod ∧ u.clkQ = s.clkQ ∧
      u.pwr = (tickHandler s).pwr := by
  obtain ⟨p, i, h1⟩ := classify_frame s
  obtain ⟨pwr, h2⟩ := applyEvent_frame (classify s).1 (classify s).2
  obtain ⟨tie, tPend, mode, h3⟩ := idleCheck_frame (applyEvent (classify s).1 (classify s).2)
  obtain ⟨tod, q, h4⟩ := clockStep_frame (idleCheck (applyEvent (classify s).1 (classify s).2))
  refine ⟨idleCheck (applyEvent (classify s).1 (classify s).2), rfl, ?_, ?_, ?_, ?pwr⟩
  case pwr => rw [tickHandler, h4]
  all_goals rw [h3, h2, h1]

/-- A taken tick that leaves the host on steps the divider (R180). -/
theorem tickHandler_divider_on {s : State} (hon : (tickHandler s).pwr = .on)
    (hc : s.cfg.wellFormed = true) (ht : s.tod < s.cfg.clkDiv) :
    (tickHandler s).tod = (if s.tod + 1 = s.cfg.clkDiv then 0 else s.tod + 1) ∧
    (tickHandler s).clkQ = if s.tod + 1 = s.cfg.clkDiv then !s.clkQ else s.clkQ := by
  obtain ⟨u, hu, hcfg, htod, hclk, hpwr⟩ := tickHandler_eq_clockStep s
  rw [← hcfg, ← htod] at ht ⊢
  rw [hu, clockStep_on (hpwr.trans hon) (hcfg ▸ hc) ht, hclk]
  exact ⟨rfl, rfl⟩

/-- The divider counts `m` modulo `d`, and its quotient counts the wraps. -/
theorem succ_mod_div {d : Nat} (hd : 0 < d) (m : Nat) :
    (m + 1) % d = (if m % d + 1 = d then 0 else m % d + 1) ∧
    (m + 1) / d = if m % d + 1 = d then m / d + 1 else m / d := by
  have hm := Nat.div_add_mod m d
  have hlt := Nat.mod_lt m hd
  rw [and_comm, Nat.div_mod_unique hd]
  split
  · rw [Nat.mul_add]; omega
  · omega

theorem not_xor_odd (q : Bool) (a : Nat) :
    (!(q ^^ decide (a % 2 = 1))) = (q ^^ decide ((a + 1) % 2 = 1)) := by
  obtain h | h := Nat.mod_two_eq_zero_or_one a
  · rw [h, Nat.succ_mod_two_eq_one_iff.2 h]; simp
  · rw [h, Nat.succ_mod_two_eq_zero_iff.2 h]; simp

/-- Awake with ticks enabled, ON with no power-down pending, `m` ticks counted since a phase in
which CLKQ was `q`. -/
structure Clocking (q : Bool) (m : Nat) (s : State) : Prop where
  awake : s.mode = .run
  unmasked : s.tie = true
  on : s.pwr = .on
  noPowerDown : s.btnN = false ∨ s.pressT ≤ s.cfg.long
  tod : s.tod = m % s.cfg.clkDiv
  clkQ : s.clkQ = (q ^^ decide (m / s.cfg.clkDiv % 2 = 1))

theorem Clocking.tick {q : Bool} {m : Nat} {s t : State} (h : Clocking q m s)
    (hc : s.cfg.wellFormed = true) (e : exec .tick s = .next t) : Clocking q (m + 1) t := by
  have hdiv := clkDiv_pos hc
  have hon := h.on
  rw [exec_tick_taken h.awake h.unmasked] at e; cases e
  have hpwr : (tickHandler s).pwr = .on := by
    rw [tickHandler_pwr, hon, if_neg (by simp), if_neg]
    rintro ⟨hb, -, hlong⟩
    obtain hpressed | hle := h.noPowerDown
    · rw [hb] at hpressed; cases hpressed
    · omega
  have htod : s.tod < s.cfg.clkDiv := h.tod ▸ Nat.mod_lt m hdiv
  obtain ⟨htod', hclk'⟩ := tickHandler_divider_on hpwr hc htod
  obtain ⟨hmod, hquot⟩ := succ_mod_div hdiv m
  obtain ⟨hmode, htie, -⟩ | ⟨-, -, -, -, hoff, -⟩ := tickHandler_mode s
  · exact
      { awake := hmode.trans h.awake
        unmasked := htie.trans h.unmasked
        on := hpwr
        noPowerDown := by
          obtain hb | hb := Bool.eq_false_or_eq_true s.btnN
          · right; simp [((tickHandler_timers s).2 hb).1]
          · left; simpa using hb
        tod := by simp [htod', hmod, h.tod]
        clkQ := by
          rw [State.respond_clkQ, State.respond_cfg, tickHandler_cfg, hclk', hquot, h.tod, h.clkQ]
          split
          · exact not_xor_odd q _
          · rfl }
  · rw [hpwr] at hoff; cases hoff

/-- Settles O43: `m` counts from the last toggle, so it starts at TOD with no wrap counted. -/
theorem clockTogglesEveryClkDivTicks : Obligations.ClockTogglesEveryClkDivTicks := by
  unfold Obligations.ClockTogglesEveryClkDivTicks
  intro s n rest hinv hm ht hon hno hs
  have hstart : Clocking s.clkQ (s.tod + 0) s :=
    ⟨hm, ht, hon, hno, (Nat.mod_eq_of_lt hinv.tod).symm, by simp [Nat.div_eq_of_lt hinv.tod]⟩
  obtain ⟨t, hrun, hclocking, hcfg, hrest⟩ :=
    runSteps_ticks (P := fun k => Clocking s.clkQ (s.tod + k)) hinv.config hs hstart
      (fun _ _ _ h => { h with }) (fun _ _ _ _ hcfg h e => h.tick (hcfg ▸ hinv.config) e) n le_rfl
  refine ⟨t, hrun, hclocking.on, by rw [hrest, Nat.sub_self]; rfl, ?_, ?_, ?_⟩
  · rw [hclocking.tod, hcfg]
  · rw [hclocking.clkQ, hcfg]
  · rw [State.pins_of_on hclocking.on]

end Sys2Proof.Machine
end

section
/-! PROOFS. Ticks between TICK_MASK and TICK_UNMASK (spec/20_memory.md R59, 40_classifier.md
R105). -/

namespace Sys2Proof.Machine

/-- Block `s` with ticks masked, after `k` of them were presented: at most one is held. -/
def MaskedFor (s : State) (k : Nat) (u : State) : Prop :=
  ∃ ws r, u = { s with tie := false, tPend := decide (0 < k), stimuli := ws, response := r }

theorem MaskedFor.runMask {s : State} {ws : List Byte} (hm : s.mode = .run) (hp : s.tPend = false)
    (hc : s.cfg.wellFormed = true) (hs : s.stimuli = encode .tickMask :: ws) :
    ∃ u, runSteps 1 s = .next u ∧ MaskedFor s 0 u ∧ u.cfg = s.cfg ∧ u.stimuli = ws :=
  ⟨_, runSteps_stimulus hc hs (exec_tickMask_awake hm), ⟨ws, some .ok, by simp [hp]⟩, rfl, rfl⟩

theorem MaskedFor.stimuli {s u : State} {k : Nat} (h : MaskedFor s k u) (l : List Byte) :
    MaskedFor s k { u with stimuli := l } := by
  obtain ⟨ws, r, rfl⟩ := h
  exact ⟨l, r, rfl⟩

theorem MaskedFor.tick {s u t : State} {k : Nat} (h : MaskedFor s k u) (hm : s.mode = .run)
    (e : exec .tick u = .next t) : MaskedFor s (k + 1) t := by
  obtain ⟨ws, r, rfl⟩ := h
  cases (exec_tick_masked (by exact hm) rfl).symm.trans e
  exact ⟨ws, none, by simp [State.respond]⟩

/-- Ticks are enabled again before the held one runs, so it runs on the block as it was. -/
theorem MaskedFor.unmask {s u : State} {k : Nat} (h : MaskedFor s (k + 1) u) (hm : s.mode = .run)
    (ht : s.tie = true) (hp : s.tPend = false) :
    exec .tickUnmask u =
      .next ((tickHandler { s with stimuli := u.stimuli }).respond (some .ok)) := by
  obtain ⟨ws, r, rfl⟩ := h
  have hblock : { s with tie := true, tPend := false, stimuli := ws, response := r } =
      State.respond r { s with stimuli := ws } := by rw [← ht, ← hp]; rfl
  refine (exec_unmask_held (by exact hm) (by exact decide_eq_true (Nat.succ_pos k))).trans ?_
  rw [hblock, tickHandler_respond]
  rfl

/-- Settles O44: the mask, `n + 1` ticks of which one is held, and the unmask that runs it. -/
theorem maskBracketRunsExactlyOneTick : Obligations.MaskBracketRunsExactlyOneTick := by
  unfold Obligations.MaskBracketRunsExactlyOneTick
  intro s n rest hinv hm ht hs
  have hc := hinv.config
  have hp : s.tPend = false := by
    by_contra hne
    exact absurd ht (by rw [hinv.heldMasked (Bool.eq_true_of_not_eq_false hne)]; nofun)
  have hwords : encodeAll (.tickMask :: ((Pseudo.ticks (n + 1)).expand ++ [.tickUnmask])) ++ rest =
      encode .tickMask ::
        (encodeAll (Pseudo.ticks (n + 1)).expand ++ encode .tickUnmask :: rest) := by
    simp [encodeAll]
  obtain ⟨s₁, hrun₁, hmasked, hcfg₁, hs₁⟩ := MaskedFor.runMask hm hp hc (hs.trans hwords)
  rw [← hcfg₁] at hc
  obtain ⟨s₂, hrun₂, hheld, hcfg₂, hs₂⟩ := runSteps_ticks hc hs₁ hmasked
    (fun _ _ l h => h.stimuli l) (fun _ _ _ _ _ h e => h.tick hm e) (n + 1) le_rfl
  rw [← hcfg₂] at hc
  rw [Nat.sub_self] at hs₂
  have hrun₃ := runSteps_stimulus hc hs₂ ((hheld.stimuli rest).unmask hm ht hp)
  refine ⟨_, exec_tick_taken hm ht, ?_⟩
  have hrun := runSteps_trans hrun₁ (runSteps_trans hrun₂ hrun₃)
  rwa [show 1 + (n + 1 + 1) = n + 3 by omega] at hrun

end Sys2Proof.Machine
end
